-- ==== Sys2Proof/Word.lean ====
section
/-! DEFINITION. The word types of the part: the 32-bit link frame and frame index, the half word and the byte. -/

namespace Sys2Proof

/-- A 32-bit value: a link frame, a frame index, a STORY_REF, a generation, a sequence number (R5, R183, R191). -/
abbrev Word := BitVec 32

/-- A 16-bit field of the link: a cue argument, the order revision (R191). -/
abbrev Half := BitVec 16

/-- An 8-bit field of the link (R191). -/
abbrev Byte := BitVec 8

end Sys2Proof
end

