-- ==== Sys2Proof/Syntax.lean ====
section
/-! DEFINITION. The commands and events of the part: one constructor of `Instr` for each row of spec/opcode_table.json,
with what reaches the part at that row: a link and an input frame for the rows of the four links, the sampled lines for
the resets, the time and the sampled RDY lines for the frame edges, the line and its edge for the line events. -/

namespace Sys2Proof

/-- The two presenter stations (chapter 6). -/
inductive StationId where
  | a
  | b
  deriving DecidableEq, Repr

/-- The two lines of a station's quadrature encoder (R126). -/
inductive EncoderLine where
  | pa
  | pb
  deriving DecidableEq, Repr

/-- The lines that are sampled at the end of power-on and at the release of RST (R1, R147, R169, R189): the role straps
(bit 2n is ROLE0 and bit 2n+1 is ROLE1 of link n), the general inputs, and PA, PB and READY of the stations (bit 0 is
station A, bit 1 station B). -/
structure Lines where
  straps : BitVec 8
  gpi : BitVec 8
  pa : BitVec 2
  pb : BitVec 2
  ready : BitVec 2
  deriving DecidableEq, Repr

/-- One block's piece of work at a frame edge. The spec leaves the order of these pieces open (R87, R99, R102, R108,
R156, R180); each is done whole, all of them within the edge's own step but for those that are rows of their own.
`tick`: CLOCK_TICK (R18). `view`: the timing pass takes its view (R87). `transition`: the completion of a transition
whose count this edge brings to 0 (R60). `posts`: the hard posts (R65 to R67). `triggers`: the TIME and REMAINING tests (R152,
R154). `station`: the countdown (R143). `channel`: a channel's own edge work (R108 to R114). `release`: the next release
to a channel (R99). -/
inductive EdgeItem where
  | tick
  | view
  | transition
  | posts
  | triggers
  | station (st : StationId)
  | channel (c : Fin 16)
  | release (c : Fin 16)
  deriving DecidableEq, Repr

/-- What a frame edge brings with it: the levels of the sixteen RDY lines at the edge (bit c is channel c, R111), and the
order in which the blocks do their work of the edge. What every edge's step holds and the list does not name is done at the
end of the step; a transition's completion, a release, a first check, a hold limit or a pulse's end that is not listed is a
row of its own (log entry 9). -/
structure EdgeInput where
  rdy : BitVec 16
  order : List EdgeItem
  deriving DecidableEq, Repr

/-- The commands and events of the part, one constructor for each row of spec/opcode_table.json. In the rows of the
links, `n` is the link and `f` the input frame whose end the row stands at (R184): for a command without data frames its
command frame, for a command with data frames its last one, the earlier ones having come in `dataFrame` rows. -/
inductive Instr where
  | powerOn (l : Lines)
  | rstAssert
  | rstRelease (l : Lines)
  | refinPulse (dt : Nat) (e : EdgeInput)
  | refLoss (e : EdgeInput)
  | timebaseEdge (e : EdgeInput)
  | timingPublish
  | transitionComplete
  | scheduleRelease (c : Fin 16)
  | firstCheck (c : Fin 16)
  | holdLimitReached (c : Fin 16)
  | pulseEnd (c : Fin 16)
  | panicFall
  | gpiEdge (i : Fin 8) (rising : Bool)
  | encoderEdge (st : StationId) (line : EncoderLine) (rising : Bool)
  | readyPress (st : StationId)
  | linkResync (n : Fin 4)
  | unknownCommand (n : Fin 4) (f : Word)
  | nop (n : Fin 4) (f : Word)
  | readClock (n : Fin 4) (f : Word)
  | setTime (n : Fin 4) (f : Word)
  | runClock (n : Fin 4) (f : Word)
  | stopClock (n : Fin 4) (f : Word)
  | setRate (n : Fin 4) (f : Word)
  | newEntry (n : Fin 4) (f : Word)
  | deleteEntry (n : Fin 4) (f : Word)
  | moveEntry (n : Fin 4) (f : Word)
  | writeField (n : Fin 4) (f : Word)
  | readField (n : Fin 4) (f : Word)
  | setFlags (n : Fin 4) (f : Word)
  | clearFlags (n : Fin 4) (f : Word)
  | addCue (n : Fin 4) (f : Word)
  | removeCue (n : Fin 4) (f : Word)
  | readCue (n : Fin 4) (f : Word)
  | readOrder (n : Fin 4) (f : Word)
  | clearRundown (n : Fin 4) (f : Word)
  | reportDuration (n : Fin 4) (f : Word)
  | arm (n : Fin 4) (f : Word)
  | disarm (n : Fin 4) (f : Word)
  | take (n : Fin 4) (f : Word)
  | takeForced (n : Fin 4) (f : Word)
  | drop (n : Fin 4) (f : Word)
  | restore (n : Fin 4) (f : Word)
  | setFallback (n : Fin 4) (f : Word)
  | resume (n : Fin 4) (f : Word)
  | readTakeStatus (n : Fin 4) (f : Word)
  | readTiming (n : Fin 4) (f : Word)
  | readSegment (n : Fin 4) (f : Word)
  | setReporting (n : Fin 4) (f : Word)
  | readSchedule (n : Fin 4) (f : Word)
  | setChannel (n : Fin 4) (f : Word)
  | fireNow (n : Fin 4) (f : Word)
  | stopChannel (n : Fin 4) (f : Word)
  | clipEnd (n : Fin 4) (f : Word)
  | readChannel (n : Fin 4) (f : Word)
  | setStation (n : Fin 4) (f : Word)
  | setPosition (n : Fin 4) (f : Word)
  | lampOverride (n : Fin 4) (f : Word)
  | lampRelease (n : Fin 4) (f : Word)
  | readStation (n : Fin 4) (f : Word)
  | readMark (n : Fin 4) (f : Word)
  | setTrigger (n : Fin 4) (f : Word)
  | enableTrigger (n : Fin 4) (f : Word)
  | disableTrigger (n : Fin 4) (f : Word)
  | setChain (n : Fin 4) (f : Word)
  | readTrigger (n : Fin 4) (f : Word)
  | setTally (n : Fin 4) (f : Word)
  | readTally (n : Fin 4) (f : Word)
  | readAsRun (n : Fin 4) (f : Word)
  | nextNotice (n : Fin 4) (f : Word)
  | repeatNotice (n : Fin 4) (f : Word)
  | noticeDone (n : Fin 4) (f : Word)
  | setMask (n : Fin 4) (f : Word)
  | setLevels (n : Fin 4) (f : Word)
  | readLink (n : Fin 4) (f : Word)
  | clearLinkFlags (n : Fin 4) (f : Word)
  | dataFrame (n : Fin 4) (f : Word)
  | allOnesFrameHeld (n : Fin 4)
  deriving DecidableEq, Repr

end Sys2Proof
end

