-- ==== Sys2Proof/Decode.lean ====
section
/-! DEFINITION. The decoder over the table's bits. No row of spec/opcode_table.json gives bits, so no word spells a
command by them. (The link's own reading of command frames, R184 and R190, is Machine/LinkFrames.lean.) -/

namespace Sys2Proof

/-- The command that a word spells by the table's bits: none, as no row of the table gives bits. -/
def decodeTableWord (_nbits _w : Nat) : Option Instr := none

end Sys2Proof
end

