-- ==== Sys2Proof/Machine/Types.lean ====
section
/-! DEFINITION. The values the registers of the blocks hold: the spec's names for states, kinds, flags and modes, and the
records each block keeps. -/

namespace Sys2Proof.Machine

/-! ### Programme clock (chapter 1) -/

/-- The frame-rate mode (section 4.1 of the introduction, R13). -/
inductive Mode where
  | f25
  | f30
  | df2997
  deriving DecidableEq, Repr

/-- The run state of the time of day (R7). -/
inductive RunState where
  | running
  | stopped
  deriving DecidableEq, Repr

/-- The reference state (R2). -/
inductive RefState where
  | present
  | lost
  deriving DecidableEq, Repr

/-- A timecode label hh:mm:ss:ff (section 4.1 of the introduction). -/
structure Label where
  hh : Nat
  mm : Nat
  ss : Nat
  ff : Nat
  deriving DecidableEq, Repr

/-- The state of the programme clock (R2, R5, R7). Times are in ticks of 1/300,000 s, in which every frame period and
every half period of R2's table is a whole number. -/
structure Clock where
  frame : Word
  tod : Nat
  run : RunState
  mode : Mode
  /-- The pending set value (R7, R9). -/
  setPending : Option Nat
  /-- The pending run change (R7, R8). -/
  runPending : Option RunState
  ref : RefState
  /-- The mode whose frame period the timebase runs at in the interval in progress (R2, R13). -/
  period : Mode
  /-- Ticks from the latest frame edge to the latest REFIN pulse taken after it (R4). -/
  sinceEdge : Nat
  /-- Ticks from the restart point to the latest REFIN pulse taken after it (R2). -/
  sinceRestart : Nat
  deriving DecidableEq, Repr

/-- How the time of day of a new frame came about (R6, R7, R10). -/
inductive EdgeKind where
  | held
  | counted
  | set
  deriving DecidableEq, Repr

/-- What the clock hands over at a frame edge, beside the frame index and the mode (R6): the time of day of the frame
that ended and of the frame that begins, and the set indication. -/
structure EdgeInfo where
  old : Nat
  new : Nat
  kind : EdgeKind
  deriving DecidableEq, Repr

/-! ### Rundown store (chapter 2) -/

inductive EntryKind where
  | story
  | clip
  | live
  | brk
  deriving DecidableEq, Repr

inductive EntryState where
  | ready
  | armed
  | onAir
  | done
  | dropped
  deriving DecidableEq, Repr

inductive Anchor where
  | start
  | finish
  | mark
  deriving DecidableEq, Repr

inductive ChanAction where
  | fire
  | stop
  deriving DecidableEq, Repr

/-- A cue record (section 2.2, R22). -/
structure Cue where
  anchor : Anchor
  value : Nat
  station : Option StationId
  channel : Fin 16
  action : ChanAction
  argument : Half
  deriving DecidableEq, Repr

/-- An entry record (section 2.1, R19). -/
structure Entry where
  id : Nat
  kind : EntryKind
  state : EntryState
  story : Word
  planned : Nat
  minimum : Option Nat
  reported : Option Nat
  hardPost : Option Nat
  station : Option StationId
  scriptStart : Option Nat
  clipChannel : Option (Fin 16)
  float : Bool
  autoAdvance : Bool
  autoPost : Bool
  editedOnAir : Bool
  cues : List Cue
  takeIndex : Option Word
  takeTime : Option Nat
  deriving DecidableEq, Repr

/-- The rundown store. An entry record exists while its id is in the running order (R19), so the running order holds
the records themselves; the free-entry pool is the set of the ids 1..240 not in it (R24), and the free cue records are
512 less those in the lists (R23). -/
structure Store where
  order : List Entry
  revision : Half
  dirty : Bool
  deriving DecidableEq, Repr

/-- The change a RUNDOWN_CHANGED notice reports (R25). -/
inductive OrderChange where
  | inserted
  | removed
  | moved
  | cleared
  deriving DecidableEq, Repr

/-! ### Take controller (chapters 3 and 9) -/

inductive Tag where
  | auto
  | manual
  deriving DecidableEq, Repr

/-- What the armed slot holds while it holds an entry (R48). -/
structure Armed where
  id : Nat
  tag : Tag
  deriving DecidableEq, Repr

/-- What the programme slot holds while it holds an entry (R48). -/
structure OnAir where
  id : Nat
  target : Nat
  deriving DecidableEq, Repr

/-- What the outgoing slot holds while it holds an entry, with the transition count, 1..250 (R48). -/
structure Outgoing where
  id : Nat
  target : Nat
  count : Nat
  /-- MODEL: the edge of the frame in progress is the one at which the count goes from 1 to 0, and the completion, which
  empties the slot, is still to be done (R60, log entry 41). -/
  due : Bool
  deriving DecidableEq, Repr

inductive EngineState where
  | normal
  | safe
  deriving DecidableEq, Repr

/-- The sources of a take, as TAKEN names them (R71). -/
inductive TakeSource where
  | director
  | forced
  | post
  | clipEnd
  | trigger
  | alert
  deriving DecidableEq, Repr

/-- A request of a trigger unit on its way to the take controller (R69, R158). -/
inductive TkcAction where
  | take
  | arm (id : Nat)
  deriving DecidableEq, Repr

/-- A trigger unit's request that came up while the take controller was carrying out a take, and waits until that take is
whole (R70). `acted`: the unit's match came before the take's reset of the units, so that its latch is set and its act is
complete but for the request; else the whole of its act still comes (R153, R158). -/
structure TkcRequest where
  unit : Fin 8
  action : TkcAction
  acted : Bool
  deriving DecidableEq, Repr

/-- The state of the take controller (R48). -/
structure TakeControl where
  armed : Option Armed
  pgm : Option OnAir
  out : Option Outgoing
  lastLength : Nat
  holdArm : Bool
  fallback : Option Nat
  engine : EngineState
  /-- MODEL: the trigger units' requests that wait for the take in hand to be whole; empty between steps. -/
  requests : List TkcRequest
  deriving DecidableEq, Repr

/-! ### Timing engine (chapter 4) -/

/-- One entry's record in a timing set (R83 to R85, R90). -/
structure TimingRecord where
  id : Nat
  segment : Nat
  isPost : Bool
  effective : Nat
  margin : Nat
  trim : Nat
  advised : Nat
  start : Nat
  day : Nat
  deriving DecidableEq, Repr

/-- The figures of a closed segment (R78 to R81, R84, R91). -/
structure SegmentFigures where
  post : Nat
  label : Nat
  distance : Int
  demand : Nat
  slack : Int
  fill : Nat
  need : Nat
  margin : Nat
  trimTotal : Nat
  residual : Nat
  postStart : Nat
  postDay : Nat
  deriving DecidableEq, Repr

/-- One segment's record in a timing set; it is closed when `closed` is present (R75, R91). -/
structure Segment where
  number : Nat
  firstMember : Nat
  members : Nat
  opener : Nat
  openDemand : Nat
  start : Nat
  startDay : Nat
  closed : Option SegmentFigures
  deriving DecidableEq, Repr

/-- The programme entry in the header of a timing set (R76, R88). -/
structure PgmTiming where
  id : Nat
  target : Nat
  elapsed : Nat
  remaining : Int
  demand : Nat
  deriving DecidableEq, Repr

/-- A timing set (R88). -/
structure TimingSet where
  generation : Word
  source : Word
  tod : Nat
  mode : Mode
  pgm : Option PgmTiming
  records : List TimingRecord
  segments : List Segment
  deriving DecidableEq, Repr

/-- The view a timing pass in flight works from (R87). -/
structure View where
  order : List Entry
  pgm : Option OnAir
  source : Word
  tod : Nat
  mode : Mode
  /-- The timing-dirty mark the pass took over was set (R26, R87). -/
  tookDirty : Bool
  /-- MODEL: the ids of the entries created since the view was taken (R59, R89). -/
  created : List Nat
  deriving DecidableEq, Repr

/-- The notified baseline (R92): each entry's projected start, each closed segment's slack class by its post (true for
NEGATIVE), and the mode. -/
structure Baseline where
  starts : List (Nat × Nat)
  slacks : List (Nat × Bool)
  mode : Mode
  deriving DecidableEq, Repr

/-- The state of the timing engine (R87 to R95). -/
structure Timing where
  view : Option View
  published : TimingSet
  /-- MODEL: the ids of the entries created since the view of the published set was taken. The set carries nothing for
  them, whatever record it holds of a freed entry of the same id (R24, R59, R89). -/
  created : List Nat
  threshold : Nat
  holdOff : Nat
  baseline : Baseline
  lastNotice : Option Word
  suppressed : Bool
  deriving DecidableEq, Repr

/-! ### Fire scheduler and fire channels (chapter 5) -/

/-- Whether a WAITING slot is to be released at the present edge (R99). `may`: it was loaded by a take made while the
edge is handled, with its release index already reached; it is released at this edge or at the next. -/
inductive Ripeness where
  | no
  | may
  | due
  deriving DecidableEq, Repr

/-- An occupied fire schedule slot (R96). `value` and `takeIndex` are what R101 recomputes an END slot from. -/
structure Slot where
  entry : Nat
  cueIndex : Nat
  story : Word
  channel : Fin 16
  action : ChanAction
  argument : Half
  anchor : Anchor
  value : Nat
  takeIndex : Word
  due : Word
  preRoll : Nat
  release : Word
  released : Bool
  loadOrder : Nat
  /-- MODEL: the release work of the present edge. -/
  ripe : Ripeness
  deriving DecidableEq, Repr

/-- The fire scheduler (R96). -/
structure Scheduler where
  slots : Vector (Option Slot) 32
  nextLoad : Nat
  /-- MODEL: a take made now is made while a frame edge is handled (R99); false between steps. -/
  atEdge : Bool
  deriving DecidableEq, Repr

inductive ChannelState where
  | idle
  | cueing
  | hold
  | fired
  | playing
  | fault
  deriving DecidableEq, Repr

inductive ChanMode where
  | pulse
  | level
  deriving DecidableEq, Repr

inductive ReadySource where
  | pin
  | always
  deriving DecidableEq, Repr

/-- A fire channel's configuration (section 5.2, R105). -/
structure ChannelConfig where
  mode : ChanMode
  width : Nat
  preRoll : Nat
  holdLimit : Nat
  ready : ReadySource
  deriving DecidableEq, Repr

/-- A request's origin, with its schedule slot or its trigger unit (R106). -/
inductive Origin where
  | schedule (slot : Option (Fin 32))
  | mark
  | trigger (unit : Fin 8)
  | manual
  deriving DecidableEq, Repr

/-- A request to a fire channel (R106). -/
structure Request where
  origin : Origin
  action : ChanAction
  argument : Half
  entry : Option Nat
  story : Option Word
  cueIndex : Option Nat
  /-- The due index a request of origin SCHEDULE carries. -/
  due : Option Word
  deriving DecidableEq, Repr

/-- The trigger unit of a request of origin TRIGGER (R106). -/
def Request.triggerUnit (r : Request) : Option (Fin 8) :=
  match r.origin with
  | .trigger u => some u
  | _ => none

/-- The request in flight (R106): the due index and the settings fixed at its entry, its first-check frame, its frames
held and its pulse frames still to run. -/
structure InFlight where
  req : Request
  due : Word
  mode : ChanMode
  width : Nat
  holdLimit : Nat
  ready : ReadySource
  firstCheck : Word
  held : Nat
  pulseLeft : Nat
  deriving DecidableEq, Repr

/-- A fire channel (R106). The level of its FIRE line is a function of the state (R116). -/
structure Channel where
  state : ChannelState
  config : ChannelConfig
  inFlight : Option InFlight
  waiting : Option Request
  faultLatch : Bool
  cue : Bool
  /-- The RDY level sampled at the latest edge (R111, R121). -/
  rdy : Bool
  /-- MODEL: the present state was entered in the frame in progress. -/
  fresh : Bool
  /-- MODEL: CUE was asserted in the frame in progress (R109). -/
  cueFresh : Bool
  /-- MODEL: FIRE was deasserted in the frame in progress (R110). -/
  fireFell : Bool
  /-- MODEL: in HOLD, ready has been sampled at the present edge (R112). -/
  sampled : Bool
  deriving DecidableEq, Repr

/-! ### Presenter stations (chapter 6) -/

inductive Direction where
  | up
  | down
  deriving DecidableEq, Repr

inductive MarkState where
  | armed
  | fired
  | skipped
  deriving DecidableEq, Repr

/-- A mark (R132). -/
structure Mark where
  entry : Nat
  cueIndex : Nat
  story : Word
  position : Nat
  channel : Fin 16
  action : ChanAction
  argument : Half
  state : MarkState
  deriving DecidableEq, Repr

inductive LampState where
  | dark
  | standby
  | onCue
  | wrap
  deriving DecidableEq, Repr

inductive OverrideSource where
  | director
  | trigger
  | alert
  deriving DecidableEq, Repr

/-- A lamp override (R141). -/
structure Override where
  state : LampState
  source : OverrideSource
  deriving DecidableEq, Repr

/-- A presenter station (R125, R128, R132, R141, R143, R144, R146). Its computed and shown lamp states and its lamp
lines are functions of the whole state (R140 to R142). -/
structure Station where
  position : Nat
  direction : Direction
  enables : Byte
  step : Nat
  wrapLead : Nat
  follow : Bool
  interlock : Bool
  marks : List Mark
  override : Option Override
  countdown : Option Int
  /-- The live remaining time the countdown was worked from (R146). -/
  countRem : Option Int
  ready : Bool
  pressIndex : Option Word
  pressTime : Option Nat
  /-- The levels of PA, PB and READY as the station last took them (R146). -/
  pa : Bool
  pb : Bool
  readyLine : Bool
  deriving DecidableEq, Repr

/-! ### Trigger units (chapter 7) -/

/-- The mask of a TIME condition (R152). -/
inductive TimeMask where
  | full
  | seconds
  | minutes
  | hours
  deriving DecidableEq, Repr

/-- A trigger unit's condition (R148, R152 to R155). -/
inductive Condition where
  | never
  | time (label : Label) (mask : TimeMask)
  | entryOnAir (id : Nat)
  | entryDone (id : Nat)
  | remaining (n : Nat)
  | gpi (i : Fin 8) (rising : Bool)
  | markPassed (st : StationId) (position : Nat)
  deriving DecidableEq, Repr

/-- A trigger unit's action (R148, R158). -/
inductive Action where
  | nothing
  | fire (c : Fin 16) (action : ChanAction) (argument : Half)
  | take
  | arm (id : Nat)
  | lamp (st : StationId) (lamp : LampState)
  | notify
  deriving DecidableEq, Repr

inductive TriggerMode where
  | single
  | repeating
  deriving DecidableEq, Repr

/-- A trigger unit (R148). -/
structure TriggerUnit where
  condition : Condition
  action : Action
  mode : TriggerMode
  enable : Bool
  latch : Bool
  dropped : Bool
  timeMemory : Bool
  spent : Bool
  deriving DecidableEq, Repr

/-- A group of trigger units (R148). -/
structure TriggerGroup where
  chain : Nat
  stage : Nat
  deriving DecidableEq, Repr

/-- An event handed to the trigger units (section 7.2). `edge` is the frame edge, which tests TIME and REMAINING
conditions; `start` is the starting value of the remaining time at a take, which the event carries, since its test may come after
another take (R158); `target` is a replacement of the target. -/
inductive TriggerEvent where
  | edge
  | onAir (id : Nat)
  | gone (id : Nat)
  | start (value : Option Int)
  | target
  | gpi (i : Fin 8) (rising : Bool)
  | move (st : StationId) (dir : Direction) (old new : Nat)
  deriving DecidableEq, Repr

/-- The trigger units (R148). -/
structure Triggers where
  units : Vector TriggerUnit 8
  groups : Vector TriggerGroup 2
  /-- MODEL: the live remaining time at the latest REMAINING test, the value before the change of R154. -/
  lastRemaining : Option Int
  /-- MODEL: the events that come up are held (R158); false between steps. -/
  holding : Bool
  /-- MODEL: the events held and not yet tested, oldest first; empty between steps. -/
  held : List TriggerEvent
  /-- MODEL: the number of meetings of several units, which the free ranks are applied to. -/
  meetings : Nat
  deriving DecidableEq, Repr

/-! ### Tally matrix (chapter 8) -/

/-- A tally source with its parameters (R164). -/
inductive Source where
  | const0
  | pgmKind (k : EntryKind)
  | armKind (k : EntryKind)
  | transition
  | chActive (c : Fin 16)
  | chFault (c : Fin 16)
  | lamp (st : StationId) (lamp : LampState)
  | safe
  | gpi (i : Fin 8)
  | over
  | under
  | refLost
  | trig (u : Fin 8)
  deriving DecidableEq, Repr

/-- A tally output's selectors and function (R163). -/
structure TallyOutput where
  a : Source
  b : Source
  c : Source
  f : Byte
  deriving DecidableEq, Repr

/-- The tally matrix (R163, R165). The twenty-four levels are functions of the whole state. -/
structure Tally where
  outputs : Vector TallyOutput 24
  threshold : Nat
  /-- The levels of the general inputs (R165); bit i is GPIi. -/
  gpi : Byte
  deriving DecidableEq, Repr

/-! ### As-run record (chapter 10) -/

/-- The kinds of as-run record (R179, R196). -/
inductive AsRunKind where
  | take
  | done
  | dropped
  | postSkip
  | postReached
  | postMissed
  | fireOnTime
  | fireLate
  | fireFault
  | cancelled
  | superseded
  | markFired
  | markSkipped
  | scheduleFull
  | takenUnready
  | takeEmpty
  | suppressed
  | panic
  | resume
  | cleared
  | systemReset
  deriving DecidableEq, Repr

/-- An as-run record: R178's fields, the cue index that R42 has the records of a slot or mark report, and the origin TRIGGER with
its unit that R161 has the records of such a request carry.
DESIGN CHOICE (log entries 35 and 38): R196's reply has no place for the cue index or the unit, so the record holds them and READ
AS-RUN does not show them. -/
structure AsRunRecord where
  sequence : Word
  frame : Word
  tod : Nat
  mode : Mode
  kind : AsRunKind
  entry : Option Nat
  story : Option Word
  channel : Option (Fin 16)
  /-- The cue index of the slot, mark or request the record is of (R42), absent in any other record. -/
  cueIndex : Option Nat
  /-- The trigger unit of the request the record is of, present where the request's origin is TRIGGER (R161). -/
  trigger : Option (Fin 8)
  value : Nat
  deriving DecidableEq, Repr

/-- The as-run record: the ring, oldest record first, and the next sequence number (R178). The number present is the
length of the ring. -/
structure AsRun where
  ring : List AsRunRecord
  next : Word
  deriving DecidableEq, Repr

/-! ### Links and notices (chapter 11) -/

inductive Role where
  | newsroom
  | director
  | playout
  | prompter
  deriving DecidableEq, Repr

/-- The refusal reasons (R188). -/
inductive Reason where
  | badCommand
  | notPermitted
  | badId
  | badArgument
  | badTime
  | state
  | full
  | notReady
  | nestFull
  deriving DecidableEq, Repr

/-- The kinds of notice (R197). -/
inductive NoticeKind where
  | none
  | taken
  | entryState
  | armedChanged
  | rundownChanged
  | timingChanged
  | postReached
  | postMissed
  | noNext
  | fireCued
  | fireDone
  | fireFault
  | scheduleFull
  | markFired
  | stationReady
  | countdown
  | clockTick
  | refState
  | triggerFired
  | triggerDropped
  | alert
  deriving DecidableEq, Repr

/-- A notice with its payload (R18, R25, R71, R94, R122, R134, R135, R143, R144, R161, R172). Times of day that the
payload gives as labels are held in the link's form of the mode in which the notice was posted. -/
inductive Notice where
  | taken (entry : Nat) (story : Word) (outgoing left length : Nat) (index time : Word) (source : TakeSource)
  | entryState (entry : Nat) (old new : EntryState) (story : Word)
  | armedChanged (entry : Nat) (tag : Option Tag) (before : Nat)
  | rundownChanged (change : OrderChange) (entry : Nat) (after : Option Nat) (length : Nat) (revision : Half)
  | timingChanged (generation source : Word) (moved slack held : Bool) (nMoved pgm : Nat) (segment0 : Option (Nat × Int))
  | postReached (entry : Nat) (story post : Word) (dropped : Nat)
  | postMissed (entry : Nat) (story post : Word)
  | noNext (entry : Nat) (story : Word) (channel : Fin 16)
  | fireCued (channel : Fin 16) (req : Request) (due firstCheck : Word)
  | fireDone (channel : Fin 16) (req : Request) (frame : Word) (lateness : Nat)
  | fireFault (channel : Fin 16) (req : Request) (held : Nat)
  | scheduleFull (entry : Nat) (story : Word) (count : Nat) (marks : Option StationId)
  | markFired (st : StationId) (mark : Mark) (frame : Word)
  | stationReady (st : StationId) (index time : Word) (entry : Nat)
  | countdown (st : StationId) (value : Option Int) (pgm : Nat) (rem : Option Int) (frame : Word)
  | clockTick (count : Nat) (label frame : Word) (minute : Bool)
  | refState (state : RefState) (frame : Word)
  | triggerFired (unit : Fin 8) (condition : Nat) (frame time : Word) (stage : Nat)
  | triggerDropped (unit : Fin 8) (entry : Nat) (cleared : Bool)
  | alert (frame time : Word) (fallback pgm out : Nat) (repeated : Bool)
  deriving DecidableEq, Repr

/-- A notice in a link's queue, with the level at which it was taken (R198). -/
structure Queued where
  notice : Notice
  level : Nat
  deriving DecidableEq, Repr

/-- A command in reception or taken: its code, selector and operand (R190), and the data frames received so far. -/
structure Command where
  code : Byte
  sel : Byte
  operand : Half
  data : List Word
  deriving DecidableEq, Repr

/-- The position of a link's receiver (R184): command position, or data position with the command in reception and the
number of data frames still owed. -/
inductive Receiver where
  | command
  | data (k : Command) (owed : Nat)
  deriving DecidableEq, Repr

/-- What an output frame is (R185, R187): it fixes the width of the LAK pulse. -/
inductive OutKind where
  | idle
  | accepted
  | data
  | refused
  | resync
  deriving DecidableEq, Repr

/-- An output frame (R183, R185). -/
structure OutFrame where
  kind : OutKind
  word : Word
  deriving DecidableEq, Repr

/-- What a link returned at its latest accepted NEXT NOTICE (R201): a notice, or NONE. -/
inductive HeldNotice where
  | none
  | notice (q : Queued)
  deriving DecidableEq, Repr

/-- A link (R184 to R189, R198 to R202). LAT is a function of the queue and the mask (R199). -/
structure Link where
  role : Role
  receiver : Receiver
  /-- An all-ones frame is held (R187). -/
  held : Bool
  /-- The next input frame is disregarded (R187). -/
  disregard : Bool
  /-- The frames of the reply still to be sent (R185). -/
  reply : List OutFrame
  /-- The output frame that runs alongside the next input frame. -/
  out : OutFrame
  /-- The number of input frames since power-on or system reset (R184). -/
  frames : Nat
  /-- The error flags (R188). -/
  flags : Byte
  /-- The level of each notice kind, by its code (R198). -/
  levels : Vector Nat 21
  mask : Nat
  /-- The saved masks, oldest first (R198). -/
  stack : List Nat
  /-- The notices queued, oldest first (R198). -/
  queue : List Queued
  heldNotice : Option HeldNotice
  deriving DecidableEq, Repr

end Sys2Proof.Machine
end

