-- ==== Sys2Proof/Machine/CommandTable.lean ====
section
/-! DEFINITION. The command codes of section 11.3: each command's code, the roles it is open to, and the numbers of data
frames in it and in its reply (R184, R185, R189). -/

namespace Sys2Proof.Machine

/-- A row of the command table. `roles` are the roles the command is open to; `reply` is the number of data frames in
the reply of the accepted command. -/
structure CommandRow where
  code : Nat
  roles : List Role
  ins : Nat
  reply : Nat
  deriving DecidableEq, Repr

/-- The roles of a command open to all. -/
def allRoles : List Role := [.newsroom, .director, .playout, .prompter]

def clockRows : List CommandRow :=
  [ ⟨0x01, allRoles, 0, 6⟩, ⟨0x02, [.newsroom, .director], 1, 1⟩, ⟨0x03, [.director], 0, 0⟩, ⟨0x04, [.director], 0, 0⟩,
    ⟨0x05, [.newsroom], 0, 1⟩ ]

def storeRows : List CommandRow :=
  [ ⟨0x10, [.newsroom], 2, 2⟩, ⟨0x11, [.newsroom], 0, 1⟩, ⟨0x12, [.newsroom], 0, 1⟩, ⟨0x13, [.newsroom], 1, 2⟩,
    ⟨0x14, allRoles, 0, 1⟩, ⟨0x15, [.newsroom, .director], 0, 1⟩, ⟨0x16, [.newsroom, .director], 0, 1⟩,
    ⟨0x17, [.newsroom], 3, 4⟩, ⟨0x18, [.newsroom], 0, 4⟩, ⟨0x19, allRoles, 0, 3⟩, ⟨0x1A, allRoles, 0, 4⟩,
    ⟨0x1B, [.newsroom], 0, 1⟩, ⟨0x1C, [.playout], 1, 2⟩ ]

def takeRows : List CommandRow :=
  [ ⟨0x20, [.director], 0, 1⟩, ⟨0x21, [.director], 0, 1⟩, ⟨0x22, [.director], 0, 2⟩, ⟨0x23, [.director], 0, 2⟩,
    ⟨0x24, [.director], 0, 1⟩, ⟨0x25, [.director], 0, 1⟩, ⟨0x26, [.director], 0, 1⟩, ⟨0x27, [.director], 0, 1⟩,
    ⟨0x28, allRoles, 0, 7⟩ ]

def timingRows : List CommandRow :=
  [ ⟨0x30, allRoles, 0, 10⟩, ⟨0x31, allRoles, 0, 19⟩, ⟨0x32, [.director], 0, 1⟩ ]

def channelRows : List CommandRow :=
  [ ⟨0x40, allRoles, 0, 6⟩, ⟨0x41, [.director, .playout], 1, 2⟩, ⟨0x42, [.director], 1, 1⟩, ⟨0x43, [.director], 0, 1⟩,
    ⟨0x44, [.playout], 0, 1⟩, ⟨0x45, allRoles, 0, 8⟩ ]

def stationRows : List CommandRow :=
  [ ⟨0x50, [.prompter], 1, 2⟩, ⟨0x51, [.prompter], 1, 3⟩, ⟨0x52, [.director], 0, 1⟩, ⟨0x53, [.director], 0, 1⟩,
    ⟨0x54, allRoles, 0, 10⟩, ⟨0x55, allRoles, 0, 5⟩ ]

def triggerRows : List CommandRow :=
  [ ⟨0x60, [.director], 3, 3⟩, ⟨0x61, [.director], 0, 1⟩, ⟨0x62, [.director], 0, 1⟩, ⟨0x63, [.director], 0, 1⟩,
    ⟨0x64, allRoles, 0, 6⟩ ]

def tallyRows : List CommandRow := [ ⟨0x70, [.director], 2, 3⟩, ⟨0x71, allRoles, 0, 5⟩ ]

def linkRows : List CommandRow :=
  [ ⟨0x80, allRoles, 1, 10⟩, ⟨0x90, allRoles, 0, 6⟩, ⟨0x91, allRoles, 0, 6⟩, ⟨0x92, allRoles, 0, 1⟩, ⟨0x93, allRoles, 0, 1⟩,
    ⟨0x94, allRoles, 0, 1⟩, ⟨0x95, allRoles, 0, 8⟩, ⟨0x96, allRoles, 0, 1⟩ ]

/-- The table of section 11.3, less NOP, which is no command to be taken (R184). -/
def commandTable : List CommandRow :=
  clockRows ++ storeRows ++ takeRows ++ timingRows ++ channelRows ++ stationRows ++ triggerRows ++ tallyRows ++ linkRows

/-- The row of a command code, or none where the code names no command. -/
def commandRow? (code : Byte) : Option CommandRow := commandTable.find? fun r => r.code == code.toNat

/-- The number of data frames a command frame's code fixes; a code that names no command has none (R184). -/
def dataFramesOf (code : Byte) : Nat :=
  match commandRow? code with
  | some r => r.ins
  | none => 0

/-- The check of the code and then of the link's role (R185, R189). -/
def permitted (code : Byte) (role : Role) : Except Reason Unit :=
  match commandRow? code with
  | none => .error .badCommand
  | some r => if role ∈ r.roles then .ok () else .error .notPermitted

/-- A command frame's code, bits 0-7 (R190). -/
def frameCode (f : Word) : Byte := f.extractLsb' 0 8

/-- A command frame's selector, bits 8-15 (R190). -/
def frameSelector (f : Word) : Byte := f.extractLsb' 8 8

/-- A command frame's operand, bits 16-31 (R190). -/
def frameOperand (f : Word) : Half := f.extractLsb' 16 16

/-- The all-ones frame (R187). -/
def allOnesFrame : Word := BitVec.allOnes 32

end Sys2Proof.Machine
end

