-- ==== Sys2Proof/Config.lean ====
section
/-! DEFINITION. The sizes the spec fixes for the part, and the free values: what the spec leaves open and the model must
not choose. A free value has no body, so no proof can rest on it. -/

namespace Sys2Proof.Config

/-- The number of entry records (R24). -/
def maxEntries : Nat := 240

/-- The number of cue records in the common pool (R23). -/
def maxCues : Nat := 512

/-- The number of cue records one entry's list may hold (R23). -/
def maxCuesPerEntry : Nat := 12

/-- The largest duration or offset (section 4.2 of the introduction). -/
def maxDuration : Nat := 131071

/-- The largest scroll position (section 4.2 of the introduction). -/
def maxScroll : Nat := 1048575

/-- The longest transition, and the highest transition count (R48, R57). -/
def maxTransition : Nat := 250

/-- The number of marks one station's list may hold (R132). -/
def maxMarks : Nat := 16

/-- The number of records the as-run ring may hold (R178). -/
def ringSize : Nat := 256

/-- The number of notices one link's queue may hold (R198). -/
def queueSize : Nat := 16

/-- The number of saved masks one link's stack may hold (R198). -/
def stackSize : Nat := 4

/-- FREE VALUE (log entry 3). Several trigger units met by one event act in either order (R158). The n-th such meeting
ranks unit u here; the units act in rising rank. -/
opaque unitRank : Nat → Nat → Nat

/-- FREE VALUE (log entry 4). At a cut made while a transition is in progress two entries leave air, and TAKEN has one
field for the entry that left air at the take (R71). True: it names the former programme entry. -/
opaque takenNamesProgramme : Bool

/-- FREE VALUE (log entry 5). The entry id a TRIGGER_DROPPED notice carries at CLEAR RUNDOWN when the unit's condition
and its ARM action name two different entries (R160). True: the condition's. -/
opaque droppedNamesCondition : Bool

end Sys2Proof.Config
end

