-- ==== Sys2Proof/Machine/Codes.lean ====
section
/-! DEFINITION. The codes by which the link carries the names of kinds, states and modes (R188, R189, R191 to R197).
Where chapter 11 gives no code, the values are coded from 0 in the order in which their owning rule lists them
(DEDUCED, log entry 6). -/

namespace Sys2Proof.Machine

/-- The mode code (R193, R196). -/
def Mode.code : Mode → Nat
  | .f25 => 0
  | .f30 => 1
  | .df2997 => 2

def modeOfCode? : Nat → Option Mode
  | 0 => some .f25
  | 1 => some .f30
  | 2 => some .df2997
  | _ => none

/-- DEDUCED (log entry 6): R7 lists RUNNING, STOPPED. -/
def RunState.code : RunState → Nat
  | .running => 0
  | .stopped => 1

/-- DEDUCED (log entry 6): R2 lists PRESENT, LOST. -/
def RefState.code : RefState → Nat
  | .present => 0
  | .lost => 1

/-- The KIND code (R192). -/
def EntryKind.code : EntryKind → Nat
  | .story => 0
  | .clip => 1
  | .live => 2
  | .brk => 3

def kindOfCode? : Nat → Option EntryKind
  | 0 => some .story
  | 1 => some .clip
  | 2 => some .live
  | 3 => some .brk
  | _ => none

/-- The STATE code (R192). -/
def EntryState.code : EntryState → Nat
  | .ready => 0
  | .armed => 1
  | .onAir => 2
  | .done => 3
  | .dropped => 4

/-- The station code (R190, R192). -/
def stationCode : StationId → Nat
  | .a => 0
  | .b => 1

def stationOfCode? : Nat → Option StationId
  | 0 => some .a
  | 1 => some .b
  | _ => none

/-- An entry's STATION field: A 0, B 1, NONE 2 (R192). -/
def stationFieldCode : Option StationId → Nat
  | some st => stationCode st
  | none => 2

/-- The anchor code (R191). -/
def Anchor.code : Anchor → Nat
  | .start => 0
  | .finish => 1
  | .mark => 2

def anchorOfCode? : Nat → Option Anchor
  | 0 => some .start
  | 1 => some .finish
  | 2 => some .mark
  | _ => none

/-- The channel action code (R191, R195). -/
def ChanAction.code : ChanAction → Nat
  | .fire => 0
  | .stop => 1

def chanActionOfCode? : Nat → Option ChanAction
  | 0 => some .fire
  | 1 => some .stop
  | _ => none

/-- DEDUCED (log entry 6): R25 lists INSERTED, REMOVED, MOVED, CLEARED. -/
def OrderChange.code : OrderChange → Nat
  | .inserted => 0
  | .removed => 1
  | .moved => 2
  | .cleared => 3

/-- DEDUCED (log entry 6): R48 lists AUTO, MANUAL. -/
def Tag.code : Tag → Nat
  | .auto => 0
  | .manual => 1

/-- DEDUCED (log entry 6): R48 lists NORMAL, SAFE. -/
def EngineState.code : EngineState → Nat
  | .normal => 0
  | .safe => 1

/-- DEDUCED (log entry 6): R71 lists DIRECTOR, FORCED, POST, CLIP_END, TRIGGER, ALERT. -/
def TakeSource.code : TakeSource → Nat
  | .director => 0
  | .forced => 1
  | .post => 2
  | .clipEnd => 3
  | .trigger => 4
  | .alert => 5

/-- DEDUCED (log entry 6): R106 lists IDLE, CUEING, HOLD, FIRED, PLAYING, FAULT. -/
def ChannelState.code : ChannelState → Nat
  | .idle => 0
  | .cueing => 1
  | .hold => 2
  | .fired => 3
  | .playing => 4
  | .fault => 5

/-- DEDUCED (log entry 6): section 5.2 lists PULSE, LEVEL. -/
def ChanMode.code : ChanMode → Nat
  | .pulse => 0
  | .level => 1

def chanModeOfCode? : Nat → Option ChanMode
  | 0 => some .pulse
  | 1 => some .level
  | _ => none

/-- DEDUCED (log entry 6): section 5.2 lists PIN, NONE. -/
def ReadySource.code : ReadySource → Nat
  | .pin => 0
  | .always => 1

def readySourceOfCode? : Nat → Option ReadySource
  | 0 => some .pin
  | 1 => some .always
  | _ => none

/-- DEDUCED (log entry 6): R106 lists SCHEDULE, MARK, TRIGGER, MANUAL. -/
def Origin.code : Origin → Nat
  | .schedule _ => 0
  | .mark => 1
  | .trigger _ => 2
  | .manual => 3

/-- DEDUCED (log entry 6): R125 lists UP, DOWN. -/
def Direction.code : Direction → Nat
  | .up => 0
  | .down => 1

/-- DEDUCED (log entry 6): R132 lists ARMED, FIRED, SKIPPED. -/
def MarkState.code : MarkState → Nat
  | .armed => 0
  | .fired => 1
  | .skipped => 2

/-- The lamp state code (R194). -/
def LampState.code : LampState → Nat
  | .dark => 0
  | .standby => 1
  | .onCue => 2
  | .wrap => 3

def lampOfCode? : Nat → Option LampState
  | 0 => some .dark
  | 1 => some .standby
  | 2 => some .onCue
  | 3 => some .wrap
  | _ => none

/-- DEDUCED (log entry 6): R141 lists DIRECTOR, TRIGGER, ALERT. -/
def OverrideSource.code : OverrideSource → Nat
  | .director => 0
  | .trigger => 1
  | .alert => 2

/-- The TIME mask code (R195). -/
def TimeMask.code : TimeMask → Nat
  | .full => 0
  | .seconds => 1
  | .minutes => 2
  | .hours => 3

def timeMaskOfCode? : Nat → Option TimeMask
  | 0 => some .full
  | 1 => some .seconds
  | 2 => some .minutes
  | 3 => some .hours
  | _ => none

/-- The condition kind code (R195). -/
def Condition.code : Condition → Nat
  | .never => 0
  | .time .. => 1
  | .entryOnAir _ => 2
  | .entryDone _ => 3
  | .remaining _ => 4
  | .gpi .. => 5
  | .markPassed .. => 6

/-- The action kind code (R195). -/
def Action.code : Action → Nat
  | .nothing => 0
  | .fire .. => 1
  | .take => 2
  | .arm _ => 3
  | .lamp .. => 4
  | .notify => 5

/-- The trigger mode code (R195). -/
def TriggerMode.code : TriggerMode → Nat
  | .single => 0
  | .repeating => 1

def triggerModeOfCode? : Nat → Option TriggerMode
  | 0 => some .single
  | 1 => some .repeating
  | _ => none

/-- The tally source code (R194). -/
def Source.code : Source → Nat
  | .const0 => 0
  | .pgmKind _ => 1
  | .armKind _ => 2
  | .transition => 3
  | .chActive _ => 4
  | .chFault _ => 5
  | .lamp .. => 6
  | .safe => 7
  | .gpi _ => 8
  | .over => 9
  | .under => 10
  | .refLost => 11
  | .trig _ => 12

/-- The tally source's parameter byte; zero where the source takes none (R167, R194). -/
def Source.parameter : Source → Nat
  | .pgmKind k => k.code
  | .armKind k => k.code
  | .chActive c => c.val
  | .chFault c => c.val
  | .lamp st l => stationCode st * 16 + l.code
  | .gpi i => i.val
  | .trig u => u.val
  | _ => 0

/-- The as-run kind code (R196). -/
def AsRunKind.code : AsRunKind → Nat
  | .take => 0x00
  | .done => 0x01
  | .dropped => 0x02
  | .postSkip => 0x03
  | .postReached => 0x04
  | .postMissed => 0x05
  | .fireOnTime => 0x06
  | .fireLate => 0x07
  | .fireFault => 0x08
  | .cancelled => 0x09
  | .superseded => 0x0A
  | .markFired => 0x0B
  | .markSkipped => 0x0C
  | .scheduleFull => 0x0D
  | .takenUnready => 0x0E
  | .takeEmpty => 0x0F
  | .suppressed => 0x10
  | .panic => 0x11
  | .resume => 0x12
  | .cleared => 0x13
  | .systemReset => 0x14

/-- The role code (R189). -/
def Role.code : Role → Nat
  | .newsroom => 0
  | .director => 1
  | .playout => 2
  | .prompter => 3

/-- The role a link's straps spell: ROLE1 above ROLE0 (section 3 of the introduction). -/
def roleOfStraps (straps : BitVec 2) : Role :=
  match straps.toNat with
  | 0 => .newsroom
  | 1 => .director
  | 2 => .playout
  | _ => .prompter

/-- The code of a refusal reason (R188). -/
def Reason.code : Reason → Nat
  | .badCommand => 1
  | .notPermitted => 2
  | .badId => 3
  | .badArgument => 4
  | .badTime => 5
  | .state => 6
  | .full => 7
  | .notReady => 8
  | .nestFull => 9

/-- The code of a notice kind (R197). -/
def NoticeKind.code : NoticeKind → Nat
  | .none => 0x00
  | .taken => 0x01
  | .entryState => 0x02
  | .armedChanged => 0x03
  | .rundownChanged => 0x04
  | .timingChanged => 0x05
  | .postReached => 0x06
  | .postMissed => 0x07
  | .noNext => 0x08
  | .fireCued => 0x09
  | .fireDone => 0x0A
  | .fireFault => 0x0B
  | .scheduleFull => 0x0C
  | .markFired => 0x0D
  | .stationReady => 0x0E
  | .countdown => 0x0F
  | .clockTick => 0x10
  | .refState => 0x11
  | .triggerFired => 0x12
  | .triggerDropped => 0x13
  | .alert => 0x14

/-- The kind of a notice. -/
def Notice.kind : Notice → NoticeKind
  | .taken .. => .taken
  | .entryState .. => .entryState
  | .armedChanged .. => .armedChanged
  | .rundownChanged .. => .rundownChanged
  | .timingChanged .. => .timingChanged
  | .postReached .. => .postReached
  | .postMissed .. => .postMissed
  | .noNext .. => .noNext
  | .fireCued .. => .fireCued
  | .fireDone .. => .fireDone
  | .fireFault .. => .fireFault
  | .scheduleFull .. => .scheduleFull
  | .markFired .. => .markFired
  | .stationReady .. => .stationReady
  | .countdown .. => .countdown
  | .clockTick .. => .clockTick
  | .refState .. => .refState
  | .triggerFired .. => .triggerFired
  | .triggerDropped .. => .triggerDropped
  | .alert .. => .alert

/-- The coalescing kinds (R198). -/
def NoticeKind.coalescing : NoticeKind → Bool
  | .timingChanged => true
  | .countdown => true
  | .clockTick => true
  | _ => false

end Sys2Proof.Machine
end

