-- ==== Sys2Proof/Machine/Timecode.lean ====
section
/-! DEFINITION. The frame-rate modes, timecode labels and the conversions between counts and labels (R2, R10, R13 to
R17). -/

namespace Sys2Proof.Machine

/-- Nominal frames per second, f (section 4.1 of the introduction). -/
def Mode.rate : Mode → Nat
  | .f25 => 25
  | .f30 => 30
  | .df2997 => 30

/-- Frames per day, D (section 4.1 of the introduction). -/
def Mode.day : Mode → Nat
  | .f25 => 2160000
  | .f30 => 2592000
  | .df2997 => 2589408

/-- The frame period of the internal timebase in ticks of 1/300,000 s: 1/25 s, 1/30 s and 1,001/30,000 s (R2). -/
def Mode.framePeriod : Mode → Nat
  | .f25 => 12000
  | .f30 => 10000
  | .df2997 => 10010

/-- The label's link form: ff in bits 0-7, ss in 8-15, mm in 16-23 and hh in 24-31 (R191). -/
def Label.toWord (l : Label) : Word :=
  BitVec.ofNat 8 l.hh ++ BitVec.ofNat 8 l.mm ++ BitVec.ofNat 8 l.ss ++ BitVec.ofNat 8 l.ff

/-- The four fields of a label taken from a link (R191). -/
def labelOfWord (w : Word) : Label :=
  { hh := (w.extractLsb' 24 8).toNat, mm := (w.extractLsb' 16 8).toNat,
    ss := (w.extractLsb' 8 8).toNat, ff := (w.extractLsb' 0 8).toNat }

/-- In DF2997, the label does not exist: ss = 00, ff = 00 or 01, at a minute total that is no multiple of ten (R14). -/
def labelMissing (m : Mode) (l : Label) : Bool :=
  m == .df2997 && l.ss == 0 && decide (l.ff < 2) && (60 * l.hh + l.mm) % 10 != 0

/-- Promotion of a label that does not exist to ff = 02 (R14). -/
def promote (m : Mode) (l : Label) : Label := if labelMissing m l then { l with ff := 2 } else l

/-- The check of a label taken from a link: refused (none) with a field out of range, else promoted (R14). A label of
all ones has hh = 255 and is refused. -/
def checkLabel (m : Mode) (w : Word) : Option Label :=
  let l := labelOfWord w
  if l.hh < 24 ∧ l.mm < 60 ∧ l.ss < 60 ∧ l.ff < m.rate then some (promote m l) else none

/-- A count written as a label in F25 and F30 (R15). -/
def wholeLabel (f n : Nat) : Label :=
  let s := n / f
  { hh := s / 3600, mm := s / 60 % 60, ss := s % 60, ff := n % f }

/-- A count written as a label in DF2997, steps 1 to 5 of R16. -/
def dropLabel (n : Nat) : Label :=
  let t := n / 17982
  let r := n % 17982
  let m := if r < 1800 then 0 else 1 + (r - 1800) / 1798
  let l := if r < 1800 then r else 2 + (r - 1800) % 1798
  let minutes := 10 * t + m
  { hh := minutes / 60, mm := minutes % 60, ss := l / 30, ff := l % 30 }

/-- A count written as a label in a mode (R15, R16). -/
def labelOf (m : Mode) (n : Nat) : Label :=
  match m with
  | .f25 => wholeLabel 25 n
  | .f30 => wholeLabel 30 n
  | .df2997 => dropLabel n

/-- A label read back as a count in F25 and F30 (R15). -/
def wholeCount (f : Nat) (l : Label) : Nat := ((60 * l.hh + l.mm) * 60 + l.ss) * f + l.ff

/-- A label read back as a count in DF2997 (R17). -/
def dropCount (l : Label) : Nat :=
  let m := 60 * l.hh + l.mm
  let x := 30 * l.ss + l.ff
  if m % 10 = 0 then 17982 * (m / 10) + x
  else 17982 * (m / 10) + 1800 + 1798 * (m % 10 - 1) + (x - 2)

/-- A label read back as a count in a mode (R15, R17). -/
def countOf (m : Mode) (l : Label) : Nat :=
  match m with
  | .f25 => wholeCount 25 l
  | .f30 => wholeCount 30 l
  | .df2997 => dropCount l

/-- The link form of the label of a count. -/
def labelWord (m : Mode) (n : Nat) : Word := (labelOf m n).toWord

/-- The adjustment of a label for a new mode at SET RATE (R13). -/
def adjustLabel (new : Mode) (l : Label) : Label :=
  promote new (if l.ff < new.rate then l else { l with ff := new.rate - 1 })

/-- A count converted to a new mode by its label (R13). SET RATE naming the mode in force changes no value. -/
def convertCount (old new : Mode) (n : Nat) : Nat :=
  if old = new then n else countOf new (adjustLabel new (labelOf old n))

/-- A stored label converted to a new mode (R13). -/
def convertLabel (old new : Mode) (l : Label) : Label :=
  if old = new then l else adjustLabel new l

/-- The forward distance (new − old) mod D (R10). -/
def forward (d old new : Nat) : Nat := (((new : Int) - (old : Int)) % (d : Int)).toNat

/-- A set from `old` to `new` is forward (R10). -/
def setIsForward (d old new : Nat) : Bool :=
  let k := forward d old new
  decide (1 ≤ k) && decide (k ≤ d / 2)

/-- A forward set from `old` to `new` passes over the count c (R10). -/
def setPasses (d old new c : Nat) : Bool :=
  let j := forward d old c
  setIsForward d old new && decide (1 ≤ j) && decide (j + 1 ≤ forward d old new)

/-- The signed forward distance from s to p within half a day (R78). -/
def halfDay (d s p : Nat) : Int :=
  let y := forward d s p
  if y ≤ d / 2 then (y : Int) else (y : Int) - (d : Int)

/-- The frame index k is at or before the frame x, compared modulo 2^32 (R96). -/
def atOrBefore (k x : Word) : Bool := decide ((x - k).toNat < 2 ^ 31)

/-- The hh:mm:ss parts of two labels differ (R18). -/
def secondsDiffer (l k : Label) : Bool := l.hh != k.hh || l.mm != k.mm || l.ss != k.ss

/-- The hh:mm parts of two labels differ (R18). -/
def minutesDiffer (l k : Label) : Bool := l.hh != k.hh || l.mm != k.mm

/-- The masked comparison of a TIME condition (R152). -/
def maskedEqual (mask : TimeMask) (l k : Label) : Bool :=
  match mask with
  | .full => l.hh == k.hh && l.mm == k.mm && l.ss == k.ss && l.ff == k.ff
  | .seconds => l.hh == k.hh && l.mm == k.mm && l.ss == k.ss
  | .minutes => l.hh == k.hh && l.mm == k.mm
  | .hours => l.hh == k.hh

end Sys2Proof.Machine
end

