-- ==== Sys2Proof/Machine/Resets.lean ====
section
/-! DEFINITION. The values of each block's state after power-on, and after a system reset where the block's chapter keeps
none of it (R2, R12, R47, R73, R95, R124, R147, R162, R169, R182, R202). -/

namespace Sys2Proof.Machine

/-- The clock after power-on (R2, R5, R12).
DESIGN CHOICE (log entry 37): there is no frame edge yet for R4 to measure a pulse from, and the model measures from the end of
power-on, so that a pulse within half a frame period of it is absorbed. -/
def clockReset : Clock :=
  { frame := 0, tod := 0, run := .stopped, mode := .f25, setPending := none, runPending := none, ref := .lost,
    period := .f25, sinceEdge := 0, sinceRestart := 0 }

/-- The store after either reset (R47). -/
def storeReset : Store := { order := [], revision := 0, dirty := false }

/-- The take controller after either reset (R73, R177). -/
def tkcReset : TakeControl :=
  { armed := none, pgm := none, out := none, lastLength := 0, holdArm := false, fallback := none, engine := .normal,
    requests := [] }

/-- The open, empty segment 0 (R75, R95). -/
def emptySegment (tod : Nat) : Segment :=
  { number := 0, firstMember := 0, members := 0, opener := 0, openDemand := 0, start := tod, startDay := 0, closed := none }

/-- The empty published set of generation 0, in the mode in force (R95). Its time of day is the model's: log entry 2.
DESIGN CHOICE (log entry 39): the mode is the one in force at the reset, and stays so until the first publication, also where a
SET RATE comes between. -/
def timingSetReset (m : Mode) : TimingSet :=
  { generation := 0, source := 0, tod := 0, mode := m, pgm := none, records := [], segments := [emptySegment 0] }

/-- The timing engine after either reset, in the mode in force (R95). The mode of the empty baseline is the model's: log entry
39. -/
def timingReset (m : Mode) : Timing :=
  { view := none, published := timingSetReset m, created := [], threshold := 0, holdOff := 0,
    baseline := { starts := [], slacks := [], mode := m }, lastNotice := none, suppressed := false }

/-- The fire scheduler after either reset (R124). -/
def schedulerReset : Scheduler := { slots := Vector.replicate 32 none, nextLoad := 0, atEdge := false }

/-- A channel's configuration after either reset (section 5.2, R124). -/
def configReset : ChannelConfig := { mode := .pulse, width := 1, preRoll := 0, holdLimit := 0, ready := .always }

/-- A channel after either reset (R124). The RDY level before the first edge is the model's: log entry 2. -/
def channelReset : Channel :=
  { state := .idle, config := configReset, inFlight := none, waiting := none, faultLatch := false, cue := false, rdy := false,
    fresh := false, cueFresh := false, fireFell := false, sampled := false }

/-- A station after either reset, with the levels of PA, PB and READY as sampled (R147). -/
def stationReset (pa pb ready : Bool) : Station :=
  { position := 0, direction := .up, enables := 0, step := 1, wrapLead := 0, follow := false, interlock := false, marks := [],
    override := none, countdown := none, countRem := none, ready := false, pressIndex := none, pressTime := none,
    pa := pa, pb := pb, readyLine := ready }

/-- A trigger unit after either reset (R162). -/
def unitReset : TriggerUnit :=
  { condition := .never, action := .nothing, mode := .single, enable := false, latch := false, dropped := false,
    timeMemory := false, spent := false }

/-- The trigger units after either reset (R162).
DESIGN CHOICE (log entry 3): the counter of meetings, which the free ranks of units met by one event are applied to, starts
again at either reset, so that the free orders after a system reset are those after power-on. -/
def triggersReset : Triggers :=
  { units := Vector.replicate 8 unitReset, groups := Vector.replicate 2 { chain := 1, stage := 0 }, lastRemaining := none,
    holding := false, held := [], meetings := 0 }

/-- The tally matrix after either reset, with the levels of the general inputs as sampled (R169). -/
def tallyReset (gpi : Byte) : Tally :=
  { outputs := Vector.replicate 24 { a := .const0, b := .const0, c := .const0, f := 0 }, threshold := 0, gpi := gpi }

/-- The as-run record after power-on (R182). -/
def asRunReset : AsRun := { ring := [], next := 0 }

/-- An output frame that carries nothing: all ones, with no LAK pulse (R185). -/
def idleFrame : OutFrame := { kind := .idle, word := BitVec.allOnes 32 }

/-- A link after either reset, with its role (R202). -/
def linkReset (role : Role) : Link :=
  { role := role, receiver := .command, held := false, disregard := false, reply := [], out := idleFrame, frames := 0,
    flags := 0, levels := Vector.replicate 21 0, mask := 0, stack := [], queue := [], heldNotice := none }

/-- The straps of link n among the sampled lines (section 3 of the introduction). -/
def strapsOf (l : Lines) (n : Fin 4) : BitVec 2 := l.straps.extractLsb' (2 * n.val) 2

/-- The four links after either reset, with the roles of their straps (R189, R202). -/
def linksReset (l : Lines) : Vector Link 4 := Vector.ofFn fun n => linkReset (roleOfStraps (strapsOf l n))

/-- The two stations after either reset, with the lines sampled (R147). -/
def stationsReset (l : Lines) : Vector Station 2 :=
  Vector.ofFn fun st => stationReset (l.pa.getLsb st) (l.pb.getLsb st) (l.ready.getLsb st)

/-- The lines State.reset is given (log entry 2): link n has role n, and every other line is low. -/
def resetLines : Lines := { straps := 0xE4, gpi := 0, pa := 0, pb := 0, ready := 0 }

end Sys2Proof.Machine
end

