-- ==== Sys2Proof/Machine/State.lean ====
section
/-! DEFINITION. The state of the part, the reasons a step may stop, and the state after power-on. -/

namespace Sys2Proof.Machine

/-- The state of the part: the eleven blocks, the RST line, what the latest frame edge handed over and what of its work
is still owed, and the queue of the commands and events that are waiting, first in, first out. -/
structure State where
  /-- RST is asserted (R1). -/
  rst : Bool
  clock : Clock
  store : Store
  tkc : TakeControl
  timing : Timing
  sched : Scheduler
  channels : Vector Channel 16
  stations : Vector Station 2
  triggers : Triggers
  tally : Tally
  asRun : AsRun
  links : Vector Link 4
  /-- What the latest frame edge handed over (R6). -/
  edge : EdgeInfo
  /-- MODEL: the pieces of work of the frame edge in hand that its step has not yet done; empty between steps. -/
  owed : List EdgeItem
  /-- The commands and events waiting, first in, first out. -/
  pending : List Instr
  deriving DecidableEq, Repr

/-- The reasons the machine stops. Nothing in the spec stops the part, so the type has no constructor: no command of
this model answers a fault. -/
inductive Fault
  deriving DecidableEq, Repr

/-- The reasons the model gives no meaning. -/
inductive Refusal where
  /-- Raised by an arm of `exec` that has no meaning yet. Safe. -/
  | notModelled (mnemonic : String)
  /-- Raised by a row of a link whose frame completes another command than the row's: the part acts on the other
  command, in that command's own row. Safe: the model answers nothing where the sender names the wrong row. -/
  | otherCommand
  deriving DecidableEq, Repr

/-- The part at the end of power-on, with the lines sampled there and an empty queue.
DESIGN CHOICE (log entry 29): RST is released at the end of power-on, also where POWER_ON comes while RST is asserted, and
no SYSTEM_RESET is appended for it; R1 gives no level of RST there. -/
def stateAfterPowerOn (l : Lines) : State :=
  { rst := false, clock := clockReset, store := storeReset, tkc := tkcReset, timing := timingReset .f25,
    sched := schedulerReset, channels := Vector.replicate 16 channelReset, stations := stationsReset l,
    triggers := triggersReset, tally := tallyReset l.gpi, asRun := asRunReset, links := linksReset l,
    edge := { old := 0, new := 0, kind := .held }, owed := [], pending := [] }

/-- The machine right after power-on. The lines it samples are the model's: log entry 2. -/
def State.reset : State := stateAfterPowerOn resetLines

end Sys2Proof.Machine
end

