-- ==== Sys2Proof/Machine/Flags.lean ====
section
/-! DEFINITION. The error flags of a link (R188) and the conditions the tally and the lines read as flags: channel
activity and faults, attention, and the levels of FIRE (R106, R116, R164, R199). -/

namespace Sys2Proof.Machine

/-- The bit of the flag byte a refusal sets (R188). -/
def Reason.flagBit : Reason → Nat
  | .badCommand => 0
  | .notPermitted => 1
  | .badId => 2
  | .badArgument => 2
  | .badTime => 2
  | .state => 3
  | .full => 3
  | .notReady => 3
  | .nestFull => 3

/-- The bit of REPLY_CUT (R188). -/
def replyCutBit : Nat := 4

/-- The bit of FRAMING (R188). -/
def framingBit : Nat := 5

/-- The bit of NOTICE_LOST (R188). -/
def noticeLostBit : Nat := 6

/-- A flag set at its cause; a flag already set stays set (R188). -/
def setFlag (flags : Byte) (bit : Nat) : Byte := flags ||| ((1 : Byte) <<< bit)

/-- The flags a CLEAR LINK FLAGS mask leaves: bits above bit 6 of the mask are disregarded (R188). -/
def clearedFlags (flags : Byte) (mask : Half) : Byte := flags &&& ~~~(mask.extractLsb' 0 8 &&& 0x7F)

/-- LAT: a queued notice stands above the mask, or is an ALERT (R199). -/
def Link.lat (l : Link) : Bool := l.queue.any fun q => decide (l.mask < q.level) || q.notice.kind == .alert

/-- FIRE is asserted in FIRED and PLAYING and deasserted in every other state (R116). -/
def ChannelState.fireLevel : ChannelState → Bool
  | .fired => true
  | .playing => true
  | _ => false

/-- A channel is active in CUEING, HOLD, FIRED and PLAYING (R106). -/
def ChannelState.active : ChannelState → Bool
  | .idle => false
  | .fault => false
  | _ => true

/-- A channel is faulted while it is in FAULT or its fault latch is set (R106). -/
def Channel.faulted (ch : Channel) : Bool := ch.state == .fault || ch.faultLatch

end Sys2Proof.Machine
end

