-- ==== Sys2Proof/Machine/Layout.lean ====
section
/-! DEFINITION. The layout of data frames: the packing of 32-, 16- and 8-bit fields, the forms of absent and signed
fields, cue records, and the payloads of notices (R190, R191, R197). -/

namespace Sys2Proof.Machine

/-- A number in a 32-bit field. -/
def w32 (n : Nat) : Word := BitVec.ofNat 32 n

/-- A number in a 16-bit field. -/
def w16 (n : Nat) : Half := BitVec.ofNat 16 n

/-- A number in an 8-bit field. -/
def w8 (n : Nat) : Byte := BitVec.ofNat 8 n

/-- A truth value in an 8-bit field: 1 when on, set or true (R195). -/
def wBool (b : Bool) : Byte := if b then 1 else 0

/-- An optional 32-bit field: absent is all ones (R191, section 4.3 of the introduction). -/
def opt32 (o : Option Word) : Word := o.getD (BitVec.allOnes 32)

/-- An optional 16-bit field. -/
def opt16 (o : Option Half) : Half := o.getD (BitVec.allOnes 16)

/-- An optional 8-bit field. -/
def opt8 (o : Option Byte) : Byte := o.getD (BitVec.allOnes 8)

/-- A signed 32-bit quantity: carried with 2^31 added (R191). -/
def signed32 (i : Int) : Word := BitVec.ofInt 32 (i + 2 ^ 31)

/-- A signed 16-bit quantity: carried with 2^15 added (R191). -/
def signed16 (i : Int) : Half := BitVec.ofInt 16 (i + 2 ^ 15)

/-- Four 8-bit fields in a frame, bits 0-7 first (R191). -/
def frameOfBytes (b0 b1 b2 b3 : Byte) : Word := b3 ++ b2 ++ b1 ++ b0

/-- 8-bit fields, four per frame; unused bits read 0 (R191). -/
def packBytes : List Byte → List Word
  | [] => []
  | [a] => [frameOfBytes a 0 0 0]
  | [a, b] => [frameOfBytes a b 0 0]
  | [a, b, c] => [frameOfBytes a b c 0]
  | a :: b :: c :: d :: rest => frameOfBytes a b c d :: packBytes rest

/-- 16-bit fields, two per frame; a frame left with one half free takes two 8-bit fields there, and the other 8-bit
fields follow (R191). -/
def packHalves : List Half → List Byte → List Word
  | [], bs => packBytes bs
  | [h], [] => [(0 : Half) ++ h]
  | [h], [a] => [(0 : Byte) ++ a ++ h]
  | [h], a :: b :: rest => (b ++ a ++ h) :: packBytes rest
  | h :: k :: rest, bs => (k ++ h) :: packHalves rest bs

/-- Data frames with fields of the three widths: the 32-bit fields first, one per frame (R191). -/
def pack (ws : List Word) (hs : List Half) (bs : List Byte) : List Word := ws ++ packHalves hs bs

/-- A cue record on the link always takes three frames (R191). -/
def Cue.frames (c : Cue) : List Word :=
  [ frameOfBytes (w8 c.anchor.code) (opt8 (c.station.map fun st => w8 (stationCode st))) (w8 c.channel.val) (w8 c.action.code),
    w32 c.value,
    (0 : Half) ++ c.argument ]

/-- The entry id and cue index bytes of a request: absent where it has none (R122). -/
def Request.entryByte (r : Request) : Byte := opt8 (r.entry.map w8)

def Request.cueByte (r : Request) : Byte := opt8 (r.cueIndex.map w8)

/-- The trigger unit byte of a request: present for the origin TRIGGER only (R122). -/
def Request.unitByte (r : Request) : Byte := opt8 (r.triggerUnit.map fun u => w8 u.val)

/-- The trigger unit's byte at the end of FIRE_DONE and FIRE_FAULT, for the origin TRIGGER only (R161). -/
def Request.unitLast (r : Request) : List Byte := (r.triggerUnit.map fun u => w8 u.val).toList

/-- The payload of a notice, in the order in which its owning rule lists the fields, packed under R191 (R197).
The codes and, where a rule does not say count or label, the labels are DEDUCED (log entries 6 and 7).
DESIGN CHOICE (log entry 35): R161 has FIRE_DONE and FIRE_FAULT carry the unit number of a request of origin TRIGGER, and R122's
table gives it no place there; it stands in the byte after the fields of the table.
DESIGN CHOICE (log entry 44): the place of SCHEDULE_FULL is coded SCHEDULE 0 and MARKS 1; R98 and R134 name one each, and chapter
11 gives no code.
DESIGN CHOICE (log entry 42): the number of entries that moved is sent modulo 256 in the 8-bit field that R191 gives a count;
the spec says nothing of a number above 255. -/
def Notice.fields : Notice → List Word
  | .taken entry story outgoing left length index time source =>
    pack [story, index, time] [] [w8 entry, w8 outgoing, w8 left, w8 length, w8 source.code]
  | .entryState entry old new story => pack [story] [] [w8 entry, w8 old.code, w8 new.code]
  | .armedChanged entry tag before => pack [] [] [w8 entry, opt8 (tag.map fun t => w8 t.code), w8 before]
  | .rundownChanged change entry after length revision =>
    pack [] [revision] [w8 change.code, w8 entry, opt8 (after.map w8), w8 length]
  | .timingChanged generation source moved slack held nMoved pgm segment0 =>
    pack [generation, source, opt32 (segment0.map fun p => signed32 p.2)] []
      [wBool moved ||| (wBool slack <<< 1) ||| (wBool held <<< 2), w8 nMoved, w8 pgm, opt8 (segment0.map fun p => w8 p.1)]
  | .postReached entry story post dropped => pack [story, post] [] [w8 entry, w8 dropped]
  | .postMissed entry story post => pack [story, post] [] [w8 entry]
  | .noNext entry story channel => pack [story] [] [w8 entry, w8 channel.val]
  | .fireCued channel r due firstCheck =>
    pack [opt32 r.story, due, firstCheck] [r.argument]
      [w8 channel.val, w8 r.origin.code, r.entryByte, r.cueByte, r.unitByte]
  | .fireDone channel r frame lateness =>
    pack [opt32 r.story, frame] [r.argument, w16 lateness]
      ([w8 channel.val, w8 r.origin.code, r.entryByte, r.cueByte, w8 r.action.code] ++ r.unitLast)
  | .fireFault channel r held =>
    pack [opt32 r.story] [r.argument] ([w8 channel.val, w8 r.origin.code, r.entryByte, r.cueByte, w8 held] ++ r.unitLast)
  | .scheduleFull entry story count marks =>
    pack [story] []
      (match marks with
       | none => [w8 entry, w8 count, w8 0]
       | some st => [w8 entry, w8 count, w8 1, w8 (stationCode st)])
  | .markFired st m frame =>
    pack [m.story, w32 m.position, frame] [m.argument]
      [w8 (stationCode st), w8 m.entry, w8 m.cueIndex, w8 m.channel.val, w8 m.action.code]
  | .stationReady st index time entry => pack [index, time] [] [w8 (stationCode st), w8 entry]
  | .countdown st value pgm rem frame =>
    pack [opt32 (rem.map signed32), frame] [opt16 (value.map signed16)] [w8 (stationCode st), w8 pgm]
  | .clockTick count label frame minute => pack [w32 count, label, frame] [] [wBool minute]
  | .refState state frame => pack [frame] [] [w8 state.code]
  | .triggerFired unit condition frame time stage => pack [frame, time] [] [w8 unit.val, w8 condition, w8 stage]
  | .triggerDropped unit entry cleared => pack [] [] [w8 unit.val, w8 entry, wBool cleared]
  | .alert frame time fallback pgm out repeated =>
    pack [frame, time] [] [w8 fallback, w8 pgm, w8 out, wBool repeated]

/-- The payload padded with zeros to five frames (R197). -/
def Notice.payload (k : Notice) : List Word := k.fields ++ List.replicate (5 - k.fields.length) 0

end Sys2Proof.Machine
end

