-- ==== Sys2Proof/Machine/Ops.lean ====
section
/-! DEFINITION. The operations every block uses: finding and writing an entry's record, appending an as-run record,
admitting a notice at the links, and the time of the frame in progress. -/

namespace Sys2Proof.Machine

/-- The index of a station in the state's vector. -/
def stationIndex : StationId → Fin 2
  | .a => 0
  | .b => 1

/-- A number below n as an index. -/
def index? (n k : Nat) : Option (Fin n) := if h : k < n then some ⟨k, h⟩ else none

/-- Every member of a fixed table changed by its own function. -/
def mapTable {α : Type} {n : Nat} (f : Fin n → α → α) (v : Vector α n) : Vector α n := Vector.ofFn fun i => f i v[i]

/-! ### The frame in progress -/

/-- The frame index of the frame in progress. -/
def State.now (s : State) : Word := s.clock.frame

/-- The label of the time of day of the frame in progress, in its link form. -/
def State.todWord (s : State) : Word := labelWord s.clock.mode s.clock.tod

/-! ### Notices (R198) -/

/-- The place in the queue of a coalescing kind's notice is kept; it takes the new payload and level (R198). -/
def coalesce (q : Queued) (queue : List Queued) : List Queued :=
  queue.map fun p => if p.notice.kind = q.notice.kind then q else p

/-- The lowest level present in a queue. -/
def lowestLevel : List Queued → Nat
  | [] => 0
  | [q] => q.level
  | q :: p :: rest => min q.level (lowestLevel (p :: rest))

/-- The queue without the oldest notice of a level (R198). -/
def discardOldest (level : Nat) : List Queued → List Queued
  | [] => []
  | q :: rest => if q.level = level then rest else q :: discardOldest level rest

/-- The level at which a link takes a kind: ALERT at 8, any other kind at the link's present level (R198). -/
def Link.levelOf (l : Link) (k : NoticeKind) : Nat :=
  if k = .alert then 8 else l.levels.toList.getD k.code 0

/-- Admission of a notice at a link (R198). -/
def Link.queueNotice (l : Link) (k : Notice) : Link :=
  let level := l.levelOf k.kind
  let q : Queued := { notice := k, level := level }
  if level = 0 then l
  else if k.kind.coalescing && l.queue.any (fun p => p.notice.kind == k.kind) then { l with queue := coalesce q l.queue }
  else if l.queue.length < Config.queueSize then { l with queue := l.queue ++ [q] }
  else
    let low := lowestLevel l.queue
    let lost := { l with flags := setFlag l.flags noticeLostBit }
    if low < level ∨ k.kind = .alert then { lost with queue := discardOldest low l.queue ++ [q] } else lost

/-- A notice is posted to the four links, each of which admits it by its own levels (section 11.5). Notices posted
during a system reset are not kept (R202). -/
def post (k : Notice) (s : State) : State :=
  if s.rst then s else { s with links := mapTable (fun _ l => l.queueNotice k) s.links }

/-! ### The as-run record (R180) -/

/-- Appending a record with its kind, entry, STORY_REF, channel, cue index (R42), trigger unit (R161) and value: it is stamped
with the frame in progress and the mode, numbered, and overwrites the oldest record of a full ring (R180). -/
def appendRecord (kind : AsRunKind) (entry : Option Nat) (story : Option Word) (channel : Option (Fin 16))
    (cueIndex : Option Nat) (trigger : Option (Fin 8)) (value : Nat) (s : State) : State :=
  let r : AsRunRecord :=
    { sequence := s.asRun.next, frame := s.clock.frame, tod := s.clock.tod, mode := s.clock.mode, kind := kind,
      entry := entry, story := story, channel := channel, cueIndex := cueIndex, trigger := trigger,
      value := value }
  let kept := if s.asRun.ring.length < Config.ringSize then s.asRun.ring else s.asRun.ring.tail
  { s with asRun := { ring := kept ++ [r], next := s.asRun.next + 1 } }

/-- Appending a record that is of no cue and no trigger unit's request (R180). -/
def append (kind : AsRunKind) (entry : Option Nat) (story : Option Word) (channel : Option (Fin 16)) (value : Nat)
    (s : State) : State :=
  appendRecord kind entry story channel none none value s

/-! ### Entries (R19 to R26) -/

/-- The record of an id in the running order, or none where the id names no entry (R19). -/
def State.entry? (s : State) (id : Nat) : Option Entry := s.store.order.find? fun e => e.id == id

/-- The id names an entry. -/
def State.names (s : State) (id : Nat) : Bool := (s.entry? id).isSome

/-- A change of one entry's record. -/
def updateEntry (id : Nat) (g : Entry → Entry) (s : State) : State :=
  { s with store := { s.store with order := s.store.order.map fun e => if e.id = id then g e else e } }

/-- The timing-dirty mark is set (R26). -/
def markDirty (s : State) : State := { s with store := { s.store with dirty := true } }

/-- A change of an entry's STATE: it is written through the store, marks timing dirty and posts ENTRY_STATE (R26,
R48). -/
def setEntryState (id : Nat) (new : EntryState) (s : State) : State :=
  match s.entry? id with
  | none => s
  | some e =>
    post (.entryState id e.state new e.story) (markDirty (updateEntry id (fun x => { x with state := new }) s))

/-- The duration an entry not on air is timed by: REPORTED when present and PLANNED otherwise (R20). -/
def Entry.duration (e : Entry) : Nat := e.reported.getD e.planned

/-- The target of the slot an entry is on air in. -/
def State.target? (s : State) (id : Nat) : Option Nat :=
  match s.tkc.pgm, s.tkc.out with
  | some p, some o => if p.id = id then some p.target else if o.id = id then some o.target else none
  | some p, none => if p.id = id then some p.target else none
  | none, some o => if o.id = id then some o.target else none
  | none, none => none

/-- The effective duration of an entry (R20). -/
def State.effective (s : State) (e : Entry) : Nat :=
  if e.state = .onAir then (s.target? e.id).getD e.duration else e.duration

/-- The programme entry's record. -/
def State.pgmEntry? (s : State) : Option Entry := s.tkc.pgm.bind fun p => s.entry? p.id

/-- The armed entry's record. -/
def State.armedEntry? (s : State) : Option Entry := s.tkc.armed.bind fun a => s.entry? a.id

/-- The programme entry's id, 0 for none. -/
def State.pgmId (s : State) : Nat := (s.tkc.pgm.map fun p => p.id).getD 0

/-- The outgoing entry's id, 0 for none. -/
def State.outId (s : State) : Nat := (s.tkc.out.map fun o => o.id).getD 0

/-- The armed entry's id, 0 for none. -/
def State.armedId (s : State) : Nat := (s.tkc.armed.map fun a => a.id).getD 0

/-- The entries after an id in a running order. -/
def afterId (id : Nat) : List Entry → List Entry
  | [] => []
  | e :: rest => if e.id = id then rest else afterId id rest

/-- The entries after the programme entry, or all from the head when the programme slot is empty (R51, R65, R74). -/
def entriesAhead (order : List Entry) (pgm : Option OnAir) : List Entry :=
  match pgm with
  | none => order
  | some p => afterId p.id order

/-- The entries ahead of the programme entry. -/
def State.ahead (s : State) : List Entry := entriesAhead s.store.order s.tkc.pgm

/-- An entry is eligible for arming: READY and not floated (R51). -/
def Entry.eligible (e : Entry) : Bool := e.state == .ready && !e.float

/-- The records in all cue lists. -/
def Store.cuesUsed (st : Store) : Nat := (st.order.map fun e => e.cues.length).sum

/-- The free cue records: 512 less those in the lists (R23). -/
def Store.cuesFree (st : Store) : Nat := Config.maxCues - st.cuesUsed

/-- The lowest id 1..240 not in the running order (R24). -/
def Store.lowestFree? (st : Store) : Option Nat :=
  ((List.range Config.maxEntries).map (· + 1)).find? fun id => st.order.all fun e => e.id != id

/-! ### The remaining time of the programme entry (R76, R77) -/

/-- A remaining time: the target less the frames elapsed, saturated (R76). -/
def remainingOf (target : Nat) (taken now : Word) : Int :=
  max (-2147483648) ((target : Int) - ((now - taken).toNat : Int))

/-- The live remaining time of the programme entry; absent with the slot empty (R77). -/
def State.liveRemaining (s : State) : Option Int :=
  s.tkc.pgm.bind fun p => (s.entry? p.id).bind fun e => e.takeIndex.map fun ts => remainingOf p.target ts s.now

/-- The channel's record. -/
def State.channel (s : State) (c : Fin 16) : Channel := s.channels[c]

/-- A channel replaced. -/
def putChannel (c : Fin 16) (ch : Channel) (s : State) : State := { s with channels := s.channels.set c ch }

/-- A station's record. -/
def State.station (s : State) (st : StationId) : Station := s.stations[stationIndex st]

/-- A station replaced. -/
def putStation (st : StationId) (x : Station) (s : State) : State :=
  { s with stations := s.stations.set (stationIndex st) x }

/-- A trigger unit replaced. -/
def putUnit (u : Fin 8) (x : TriggerUnit) (s : State) : State :=
  { s with triggers := { s.triggers with units := s.triggers.units.set u x } }

/-- A schedule slot replaced. -/
def putSlot (i : Fin 32) (x : Option Slot) (s : State) : State :=
  { s with sched := { s.sched with slots := s.sched.slots.set i x } }

/-- A request's schedule slot is freed where it has one (R100). -/
def freeSlotOf (r : Request) (s : State) : State :=
  match r.origin with
  | .schedule (some i) => putSlot i none s
  | _ => s

/-- The interlock of the station an entry names is closed: INTERLOCK on and READY clear (R145). -/
def State.interlockClosed (s : State) (e : Entry) : Bool :=
  match e.station with
  | none => false
  | some st => (s.station st).interlock && !(s.station st).ready

/-- One function after another over a list. -/
def forEach {α : Type} (xs : List α) (g : α → State → State) (s : State) : State := xs.foldl (fun t x => g x t) s

end Sys2Proof.Machine
end

