-- ==== Sys2Proof/Machine/LinkFrames.lean ====
section
/-! DEFINITION. The link interface: what a link's receiver makes of an input frame, the taking of a command, its reply,
and the frame that goes out alongside the next input frame (R184 to R187). The grain is the frame: LCK cycles, the order
of the bits on the lines and the moment of the LAK pulse within its frame are below it (log entry 10). -/

namespace Sys2Proof.Machine

/-! ### The output side (R185, R187) -/

/-- The width of the LAK pulse at the start of an output frame, in LCK cycles; 0 for no pulse (R185). -/
def OutKind.lak : OutKind → Nat
  | .idle => 0
  | .accepted => 1
  | .data => 2
  | .refused => 3
  | .resync => 4

/-- A status frame: the status in bits 0-7, the count of data frames in bits 8-15 and the command code in bits 16-31
(R185). -/
def statusFrame (status count : Nat) (code : Byte) : Word := code.setWidth 16 ++ w8 count ++ w8 status

/-- The reply to an accepted command: its status frame and its data frames (R185). -/
def acceptedReply (code : Byte) (data : List Word) : List OutFrame :=
  { kind := .accepted, word := statusFrame 0 data.length code } :: data.map fun w => { kind := .data, word := w }

/-- The reply to a refused command: a status frame with the reason's code and a count of 0 (R185, R188). -/
def refusedReply (code : Byte) (r : Reason) : List OutFrame := [{ kind := .refused, word := statusFrame r.code 0 code }]

/-- The resynchronisation frame: the error flags in bits 0-7, the role in 8-15, the number of notices queued in 16-23 and
the mask in 24-31 (R187). -/
def Link.resyncFrame (l : Link) : OutFrame :=
  { kind := .resync, word := frameOfBytes l.flags (w8 l.role.code) (w8 l.queue.length) (w8 l.mask) }

/-- An input frame has ended: the next frame of the reply, or nothing, goes out alongside the next input frame (R184,
R185). -/
def Link.shift (l : Link) : Link :=
  match l.reply with
  | [] => { l with out := idleFrame, frames := l.frames + 1 }
  | o :: rest => { l with out := o, reply := rest, frames := l.frames + 1 }

/-! ### The input side (R184, R186, R187) -/

/-- What a receiver makes of an input frame: the link after it, the command taken if one is, and whether the frame itself
has been dealt with. It has not where a held all-ones frame completes a command: the frame after it is then classified in
command position, as an event of its own. -/
structure Reception where
  link : Link
  taken : Option Command
  consumed : Bool
  deriving DecidableEq, Repr

/-- A new command's first frame drops what is left of a reply in progress and sets REPLY_CUT (R186). -/
def Link.cutReply (l : Link) : Link :=
  match l.reply with
  | [] => l
  | _ :: _ => { l with reply := [], flags := setFlag l.flags replyCutBit }

/-- A command frame's command, before its data frames. -/
def commandOf (f : Word) : Command := { code := frameCode f, sel := frameSelector f, operand := frameOperand f, data := [] }

/-- A frame classified in command position: a NOP is taken as nothing; any other code begins a command, which is taken at
once when it owes no data frame (R184, R186). -/
def Link.classifyCommand (l : Link) (f : Word) : Reception :=
  if frameCode f = 0 then { link := l, taken := none, consumed := true }
  else
    let k := commandOf f
    let l1 := l.cutReply
    match dataFramesOf k.code with
    | 0 => { link := l1, taken := some k, consumed := true }
    | owed + 1 => { link := { l1 with receiver := .data k (owed + 1) }, taken := none, consumed := true }

/-- A frame taken as data (R184): the command is taken with its last data frame. -/
def Link.takeData (l : Link) (k : Command) (owed : Nat) (f : Word) (consumed : Bool) : Reception :=
  let k' := { k with data := k.data ++ [f] }
  if owed ≤ 1 then { link := { l with receiver := .command }, taken := some k', consumed := consumed }
  else { link := { l with receiver := .data k' (owed - 1) }, taken := none, consumed := consumed }

/-- A frame that is not all ones, in the receiver's position (R184). -/
def Link.classify (l : Link) (f : Word) : Reception :=
  match l.receiver with
  | .command => l.classifyCommand f
  | .data k owed => l.takeData k owed f true

/-- A resynchronisation (R187): the command in reception is abandoned, the reply is dropped without REPLY_CUT, the
resynchronisation frame is next out, and the frame received alongside it is disregarded. -/
def Link.resynchronise (l : Link) : Link :=
  { l with receiver := .command, held := false, disregard := true, reply := [l.resyncFrame] }

/-- An all-ones frame: held, or the second of two (R187). -/
def Link.receiveAllOnes (l : Link) : Reception :=
  if l.held then { link := l.resynchronise, taken := none, consumed := true }
  else { link := { l with held := true }, taken := none, consumed := true }

/-- A frame that is not all ones after a held frame: in command position the held frame is discarded with FRAMING; in data
position it is taken as data, and where it was the command's last frame the command is taken (R187). -/
def Link.receiveAfterHeld (l : Link) (f : Word) : Reception :=
  let l1 := { l with held := false }
  match l.receiver with
  | .command => { l1 with flags := setFlag l.flags framingBit }.classify f
  | .data k owed =>
    let r := l1.takeData k owed allOnesFrame false
    if owed ≤ 1 then r else r.link.classify f

/-- What a link's receiver makes of an input frame (R184, R186, R187). -/
def Link.receive (l : Link) (f : Word) : Reception :=
  if l.disregard then { link := { l with disregard := false }, taken := none, consumed := true }
  else if f = allOnesFrame then l.receiveAllOnes
  else if l.held then l.receiveAfterHeld f
  else l.classify f

/-! ### Commands (R184, R185, R188) -/

/-- The link's record. -/
def State.link (s : State) (n : Fin 4) : Link := s.links[n]

/-- A link replaced. -/
def putLink (n : Fin 4) (l : Link) (s : State) : State := { s with links := s.links.set n l }

/-- What a block answers a command with: a reason, with no state changed, or the state after the command and the data
frames of its reply, which is formed from that state (R184, R185). -/
abbrev Answer := Except Reason (State × List Word)

/-- The output frame after the frame that has ended is decided, where that frame has been dealt with. -/
def endFrame (consumed : Bool) (l : Link) : Link := if consumed then l.shift else l

/-- A refused command sets the link's flag for the reason and leaves every other state as it was (R185, R188). -/
def refuse (n : Fin 4) (k : Command) (r : Reason) (consumed : Bool) (s : State) : State :=
  let l := s.link n
  putLink n (endFrame consumed { l with flags := setFlag l.flags r.flagBit, reply := refusedReply k.code r }) s

/-- An accepted command's reply is started (R185). -/
def accept (n : Fin 4) (k : Command) (data : List Word) (consumed : Bool) (s : State) : State :=
  let l := s.link n
  putLink n (endFrame consumed { l with reply := acceptedReply k.code data }) s

/-- A command that is taken is checked by the link, for its code and then for its role, and then by its owning block
(R185, R189). -/
def answerTo (k : Command) (role : Role) (body : Command → State → Answer) (s : State) : Answer :=
  match permitted k.code role with
  | .error r => .error r
  | .ok _ => body k s

/-- A command is taken: it is checked and acted on as one event, and its reply is started (R184, R185). -/
def takeCommand (n : Fin 4) (k : Command) (consumed : Bool) (body : Command → State → Answer) (s : State) : State :=
  match answerTo k (s.link n).role body s with
  | .error r => refuse n k r consumed s
  | .ok (t, data) => accept n k data consumed t

/-- An input frame of a link at a command's row. Where the frame completes no command (the link disregards it, holds it or
owes more frames), the link alone acts. Where it completes another command than the row's, the row does not stand at this
frame (log entry 11). While RST is asserted the links take nothing (R1). -/
def onFrame (n : Fin 4) (f : Word) (isRow : Command → Bool) (body : Command → State → Answer) (s : State) :
    Host.Outcome State Fault Refusal :=
  if s.rst then .next s
  else
    let r := (s.link n).receive f
    let t := putLink n r.link s
    match r.taken with
    | none => .next (putLink n (endFrame r.consumed r.link) s)
    | some k => if isRow k then .next (takeCommand n k r.consumed body t) else .refused .otherCommand

/-- The row of the command with a code. -/
def onCommand (code : Byte) (n : Fin 4) (f : Word) (body : Command → State → Answer) (s : State) :
    Host.Outcome State Fault Refusal := onFrame n f (fun k => k.code == code) body s

/-- A row at which no command is completed (NOP, a data frame, an all-ones frame). -/
def onBareFrame (n : Fin 4) (f : Word) (s : State) : Host.Outcome State Fault Refusal :=
  onFrame n f (fun _ => false) (fun _ t => .ok (t, [])) s

end Sys2Proof.Machine
end

