-- ==== Sys2Proof/Machine/Operands.lean ====
section
/-! DEFINITION. The operands of commands: the selector, the operand and the data frames read as ids, indices, settings and
cue records, with the absent forms and the clamps (sections 4.2 and 4.3 of the introduction, R190, R191). Where R190 and
R191 do not place a setting of a command, its place is DEDUCED from the numbers of frames of section 11.3 (log entry
12). -/

namespace Sys2Proof.Machine

/-- The selector as a number. -/
def Command.selector (k : Command) : Nat := k.sel.toNat

/-- The operand as a number. -/
def Command.op (k : Command) : Nat := k.operand.toNat

/-- The operand's lower byte: bits 16-23 of the command frame. -/
def Command.opLow (k : Command) : Byte := k.operand.extractLsb' 0 8

/-- The operand's upper byte: bits 24-31 of the command frame. -/
def Command.opHigh (k : Command) : Byte := k.operand.extractLsb' 8 8

/-- A data frame of the command, the first being 0. -/
def Command.word (k : Command) (i : Nat) : Word := k.data.getD i 0

/-- A byte of a frame, bits 0-7 being byte 0. -/
def byteOf (w : Word) (i : Nat) : Byte := w.extractLsb' (8 * i) 8

/-- A byte of a frame as a number. -/
def byteNat (w : Word) (i : Nat) : Nat := (byteOf w i).toNat

/-- The lower half of a frame. -/
def lowHalf (w : Word) : Half := w.extractLsb' 0 16

/-- The upper half of a frame. -/
def highHalf (w : Word) : Half := w.extractLsb' 16 16

/-- The all-ones values of the three widths, absent (section 4.3 of the introduction). -/
def absent8 (b : Byte) : Bool := b == BitVec.allOnes 8

def absent16 (h : Half) : Bool := h == BitVec.allOnes 16

def absent32 (w : Word) : Bool := w == BitVec.allOnes 32

/-- A numeric setting clamped from above. -/
def clampTo (top n : Nat) : Nat := min n top

/-- A numeric setting clamped at both ends. -/
def clampBetween (low top n : Nat) : Nat := max low (min n top)

/-- A setting given as the all-ones value of its byte is left as it was; any other takes the value given. -/
def keepOr8 {α : Type} (old : α) (b : Byte) (g : Nat → α) : α := if absent8 b then old else g b.toNat

/-- A setting given as the all-ones value of its half word is left as it was. -/
def keepOr16 {α : Type} (old : α) (h : Half) (g : Nat → α) : α := if absent16 h then old else g h.toNat

/-- The check of a value: the reason where it is missing. -/
def orElse {α : Type} (r : Reason) : Option α → Except Reason α
  | some a => .ok a
  | none => .error r

/-- A reason for refusing, if the condition does not hold. -/
def require (c : Bool) (r : Reason) : Except Reason Unit := if c then .ok () else .error r

/-- An entry id that must name an entry (R19). -/
def needEntry (s : State) (id : Nat) : Except Reason Entry := orElse .badId (s.entry? id)

/-- A channel number that must be 0..15. -/
def needChannel (c : Nat) : Except Reason (Fin 16) := orElse .badId (index? 16 c)

/-- A station code that must be A or B. -/
def needStation (c : Nat) : Except Reason StationId := orElse .badId (stationOfCode? c)

/-- A trigger unit number that must be 0..7. -/
def needUnit (u : Nat) : Except Reason (Fin 8) := orElse .badId (index? 8 u)

/-- A tally output number that must be 0..23. -/
def needOutput (o : Nat) : Except Reason (Fin 24) := orElse .badId (index? 24 o)

/-- A transition length: above 250 clamped, all ones absent, which means the last transition length (R57). -/
def Command.transitionLength (k : Command) (last : Nat) : Nat := keepOr16 last k.operand (clampTo Config.maxTransition)

/-- A duration: all ones refused, above 131,071 clamped (R28, R32, R40). -/
def duration? (w : Word) : Option Nat := if absent32 w then none else some (clampTo Config.maxDuration w.toNat)

/-- An optional number: all ones makes it absent, and a value above the top is clamped (R32). -/
def optionalClamped (top : Nat) (w : Word) : Option Nat := if absent32 w then none else some (clampTo top w.toNat)

/-! ### Cue records (R22, R191) -/

/-- The station of a cue record from a link: present exactly when the anchor is MARK (R22). The outer none is a refusal. -/
def cueStation? (a : Anchor) (code : Nat) : Option (Option StationId) :=
  match a with
  | .mark => (stationOfCode? code).map some
  | _ => some none

/-- The clamp of a cue's VALUE (R22). -/
def cueValue (a : Anchor) (n : Nat) : Nat :=
  match a with
  | .mark => clampTo Config.maxScroll n
  | _ => clampTo Config.maxDuration n

/-- A cue record taken from the three data frames of ADD CUE, or none where R22 refuses it. -/
def cueOfFrames? (k : Command) : Option Cue := do
  let a ← anchorOfCode? (byteNat (k.word 0) 0)
  let st ← cueStation? a (byteNat (k.word 0) 1)
  let c ← index? 16 (byteNat (k.word 0) 2)
  let act ← chanActionOfCode? (byteNat (k.word 0) 3)
  return { anchor := a, value := cueValue a (k.word 1).toNat, station := st, channel := c, action := act,
           argument := lowHalf (k.word 2) }

end Sys2Proof.Machine
end

