-- ==== Sys2Proof/Machine/ChannelOps.lean ====
section
/-! DEFINITION. The operations of the sixteen fire channels: admitting a request, entering it, its first check, hold,
fire and fault, the work of a channel at a frame edge, and the two ways a command ends a channel's work (sections 5.3 and
5.4, R106 to R117). -/

namespace Sys2Proof.Machine

/-- An as-run record of a request's own, with its entry, STORY_REF, cue index and trigger unit where it has them and the channel
(R42, R123, R161). -/
def appendFor (kind : AsRunKind) (c : Fin 16) (r : Request) (value : Nat) (s : State) : State :=
  appendRecord kind r.entry r.story (some c) r.cueIndex r.triggerUnit value s

/-- A lateness: frames after the due index, modulo 2^32, saturated at 65,535 (R113). -/
def latenessOf (due now : Word) : Nat := min 65535 (now - due).toNat

/-- A fire or a STOP acting is recorded as FIRE_ON_TIME or FIRE_LATE, and FIRE_DONE is posted (R113, R115). -/
def reportDone (c : Fin 16) (r : Request) (due : Word) (s : State) : State :=
  let late := latenessOf due s.now
  post (.fireDone c r s.now late) (appendFor (if late = 0 then .fireOnTime else .fireLate) c r late s)

/-- The due index of a FIRE request at its entry: its slot's for the origin SCHEDULE, and for an immediate request the
frame that begins at the first edge after the entry (R106). -/
def entryDue (r : Request) (now : Word) : Word :=
  match r.origin with
  | .schedule _ => r.due.getD now
  | _ => now + 1

/-- The first-check frame of a FIRE request entering in frame `now` (R110). `low`: the entry found FIRE asserted, or
FIRE was deasserted in this frame, so that the check is no earlier than the next edge. -/
def firstCheckFrame (r : Request) (now : Word) (low : Bool) : Word :=
  match r.origin with
  | .schedule _ =>
    let due := r.due.getD now
    if atOrBefore due now then (if low then now + 1 else now) else due
  | _ => now + 1

/-- A FIRE request enters a channel: CUEING, CUE asserted, the settings copied, a playing device's FIRE deasserted, and
FIRE_CUED posted (R109). -/
def enterFire (c : Fin 16) (r : Request) (s : State) : State :=
  let ch := s.channel c
  let low := ch.state.fireLevel || ch.fireFell
  let due := entryDue r s.now
  let check := firstCheckFrame r s.now low
  let fl : InFlight :=
    { req := r, due := due, mode := ch.config.mode, width := ch.config.width, holdLimit := ch.config.holdLimit,
      ready := ch.config.ready, firstCheck := check, held := 0, pulseLeft := 0 }
  post (.fireCued c r due check)
    (putChannel c
      { ch with state := .cueing, inFlight := some fl, cue := true, fresh := true, cueFresh := true, fireFell := low } s)

/-- The due index of a STOP request at its entry: its slot's for the origin SCHEDULE, else the frame in which it acts
(R106). -/
def stopDue (r : Request) (now : Word) : Word :=
  match r.origin with
  | .schedule _ => r.due.getD now
  | _ => now

/-- A STOP request enters a channel and acts at once: PLAYING is ended, its slot is freed, and its outcome is recorded
and posted (R115). -/
def enterStop (c : Fin 16) (r : Request) (s : State) : State :=
  let ch := s.channel c
  let s1 := if ch.state = .playing then putChannel c { ch with state := .idle, fresh := true, fireFell := true } s else s
  reportDone c r (stopDue r s.now) (freeSlotOf r s1)

/-- A request enters a channel (R109, R115). -/
def enterRequest (c : Fin 16) (r : Request) (s : State) : State :=
  match r.action with
  | .fire => enterFire c r s
  | .stop => enterStop c r s

/-- The waiting request enters at an edge, and the waiting place becomes empty (R108). -/
def enterWaiting (c : Fin 16) (s : State) : State :=
  match (s.channel c).waiting with
  | none => s
  | some r => enterRequest c r (putChannel c { s.channel c with waiting := none } s)

/-- The channel admits an arriving request at once: IDLE, or PLAYING from a LEVEL fire of an earlier frame, with no
request waiting (R107). -/
def Channel.admitsAtOnce (ch : Channel) : Bool :=
  ch.waiting.isNone && (ch.state == .idle || (ch.state == .playing && !ch.fresh))

/-- The request in the waiting place is superseded (R107). -/
def supersede (c : Fin 16) (s : State) : State :=
  match (s.channel c).waiting with
  | none => s
  | some r => freeSlotOf r (appendFor .superseded c r 0 s)

/-- A request arrives at a channel and is admitted (R107). -/
def deliver (c : Fin 16) (r : Request) (s : State) : State :=
  if (s.channel c).admitsAtOnce then enterRequest c r s
  else
    let t := supersede c s
    putChannel c { t.channel c with waiting := some r } t

/-- A waiting request is cancelled: removed, CANCELLED appended, its slot freed (R102, R103, R119, R138). -/
def cancelWaiting (c : Fin 16) (s : State) : State :=
  match (s.channel c).waiting with
  | none => s
  | some r => freeSlotOf r (appendFor .cancelled c r 0 (putChannel c { s.channel c with waiting := none } s))

/-- Ready at the edge: the RDY level sampled there for the source PIN, always true for NONE (R111). -/
def Channel.readyFor (ch : Channel) (fl : InFlight) : Bool :=
  match fl.ready with
  | .pin => ch.rdy
  | .always => true

/-- The request fires (R113). -/
def fire (c : Fin 16) (fl : InFlight) (s : State) : State :=
  let ch := s.channel c
  match fl.mode with
  | .pulse =>
    reportDone c fl.req fl.due
      (putChannel c { ch with state := .fired, fresh := true, inFlight := some { fl with pulseLeft := fl.width } } s)
  | .level =>
    reportDone c fl.req fl.due
      (freeSlotOf fl.req (putChannel c { ch with state := .playing, fresh := true, inFlight := none } s))

/-- The request faults (R114). -/
def faultRequest (c : Fin 16) (fl : InFlight) (s : State) : State :=
  let ch := s.channel c
  let s1 := putChannel c { ch with state := .fault, fresh := true, inFlight := none, faultLatch := true } s
  post (.fireFault c fl.req fl.held) (appendFor .fireFault c fl.req fl.held (freeSlotOf fl.req s1))

/-- CUE is deasserted at the first edge after the entry that asserted it (R109). -/
def dropCue (c : Fin 16) (s : State) : State :=
  let ch := s.channel c
  if ch.cue && !ch.cueFresh then putChannel c { ch with cue := false } s else s

/-- The first check: ready fires, a hold limit of 0 faults, anything else holds (R111). -/
def firstCheckWork (c : Fin 16) (fl : InFlight) (s : State) : State :=
  let ch := s.channel c
  if ch.readyFor fl then fire c fl s
  else if fl.holdLimit = 0 then faultRequest c fl s
  else putChannel c { ch with state := .hold, fresh := true, sampled := true, inFlight := some { fl with held := 0 } } s

/-- The sample of an edge in HOLD (R112). -/
def holdWork (c : Fin 16) (fl : InFlight) (s : State) : State :=
  let ch := s.channel c
  let fl' := { fl with held := fl.held + 1 }
  if ch.readyFor fl then fire c fl' s
  else if fl.holdLimit ≤ fl'.held then faultRequest c fl' s
  else putChannel c { ch with sampled := true, inFlight := some fl' } s

/-- The end of a pulse: FIRE is deasserted, the request ends, and the channel becomes IDLE or enters its waiting request
(R113, R108). -/
def pulseEndWork (c : Fin 16) (fl : InFlight) (s : State) : State :=
  let ch := s.channel c
  enterWaiting c
    (freeSlotOf fl.req (putChannel c { ch with state := .idle, fresh := true, inFlight := none, fireFell := true } s))

/-- The edge after a fault: the channel leaves FAULT for IDLE or for its waiting request (R114, R108). -/
def leaveFault (c : Fin 16) (s : State) : State :=
  enterWaiting c (putChannel c { s.channel c with state := .idle, fresh := true } s)

/-- The first check of the request in flight is due in frame `now` (R110). -/
def Channel.checkDue (ch : Channel) (now : Word) : Option InFlight :=
  match ch.state, ch.inFlight with
  | .cueing, some fl => if atOrBefore fl.firstCheck now then some fl else none
  | _, _ => none

/-- The sample of the present edge in HOLD is due (R112). -/
def Channel.sampleDue (ch : Channel) : Option InFlight :=
  match ch.state, ch.inFlight with
  | .hold, some fl => if ch.sampled then none else some fl
  | _, _ => none

/-- The pulse of the request in flight has run out (R113). -/
def Channel.pulseDue (ch : Channel) : Option InFlight :=
  match ch.state, ch.inFlight with
  | .fired, some fl => if fl.pulseLeft = 0 then some fl else none
  | _, _ => none

/-- The hold limit is reached at the sample due, with ready false (R112). -/
def Channel.limitDue (ch : Channel) : Option InFlight :=
  ch.sampleDue.bind fun fl => if !ch.readyFor fl && decide (fl.holdLimit ≤ fl.held + 1) then some fl else none

/-- A channel's own work at a frame edge (R108 to R114). -/
def channelEdge (c : Fin 16) (s0 : State) : State :=
  let s := dropCue c s0
  let ch := s.channel c
  match ch.state with
  | .cueing =>
    match ch.checkDue s.now with
    | some fl => firstCheckWork c fl s
    | none => s
  | .hold =>
    match ch.sampleDue with
    | some fl => holdWork c fl s
    | none => s
  | .fired =>
    match ch.pulseDue with
    | some fl => pulseEndWork c fl s
    | none => s
  | .fault => if ch.fresh then s else leaveFault c s
  | .idle => if ch.fresh then s else enterWaiting c s
  | .playing => if ch.fresh then s else enterWaiting c s

/-- A channel at the beginning of a new frame: RDY is sampled and the marks of the frame that ended are dropped; a
running pulse has one frame less to run (R111, R113). -/
def Channel.newFrame (ch : Channel) (rdy : Bool) : Channel :=
  { ch with
    rdy := rdy, fresh := false, cueFresh := false, fireFell := false, sampled := false,
    inFlight := if ch.state = .fired then ch.inFlight.map fun fl => { fl with pulseLeft := fl.pulseLeft - 1 } else ch.inFlight }

/-- STOP CHANNEL on a channel: the waiting request and a request in CUEING or HOLD are cancelled, FIRED is cut short,
PLAYING is ended, CUE drops, and the channel is IDLE (R119). -/
def stopChannelWork (c : Fin 16) (s : State) : State :=
  let s1 := cancelWaiting c s
  let ch := s1.channel c
  let s2 := putChannel c { ch with state := .idle, fresh := ch.fresh || ch.state != .idle, inFlight := none, cue := false,
                                    fireFell := ch.fireFell || ch.state.fireLevel } s1
  match ch.state, ch.inFlight with
  | .cueing, some fl => freeSlotOf fl.req (appendFor .cancelled c fl.req 0 s2)
  | .hold, some fl => freeSlotOf fl.req (appendFor .cancelled c fl.req 0 s2)
  | .fired, some fl => freeSlotOf fl.req s2
  | _, _ => s2

/-- The number of requests STOP CHANNEL cancels (R119). -/
def Channel.cancellable (ch : Channel) : Nat :=
  (if ch.waiting.isSome then 1 else 0) + (if ch.state = .cueing ∨ ch.state = .hold then (if ch.inFlight.isSome then 1 else 0) else 0)

/-- CLIP END at a channel: PLAYING is ended, and any other state is left as it is. A request that waits for the edge after
a LEVEL fire still enters at that edge, so IDLE counts as entered when PLAYING was (R108, R120). -/
def clipEndWork (c : Fin 16) (s : State) : State :=
  let ch := s.channel c
  if ch.state = .playing then putChannel c { ch with state := .idle, fireFell := true } s else s

end Sys2Proof.Machine
end

