-- ==== Sys2Proof/Machine/ScheduleOps.lean ====
section
/-! DEFINITION. The operations of the fire scheduler: loading at a take, releasing at an edge, recomputing END slots, and
cancelling the work of an entry (section 5.1, R96 to R103). -/

namespace Sys2Proof.Machine

/-- The due index of a START or END cue of an entry taken at `ts` with target `g` (R97). -/
def dueOf (anchor : Anchor) (value : Nat) (ts : Word) (g : Nat) : Word :=
  match anchor with
  | .start => ts + w32 value
  | _ => if value ≤ g then ts + w32 g - w32 value else ts

/-- The lowest-numbered free slot (R96). -/
def Scheduler.freeSlot? (f : Scheduler) : Option (Fin 32) := (List.finRange 32).find? fun i => (f.slots[i]).isNone

/-- Whether a slot just loaded may be released at the present edge (R99). -/
def loadRipeness (atEdge : Bool) (release now : Word) : Ripeness :=
  if atEdge && atOrBefore release now then .may else .no

/-- The slot a cue of entry e is loaded as (R96, R97). -/
def slotOf (s : State) (e : Entry) (g : Nat) (ts : Word) (index : Nat) (cue : Cue) : Slot :=
  let pre := match cue.action with
    | .fire => (s.channel cue.channel).config.preRoll
    | .stop => 0
  let due := dueOf cue.anchor cue.value ts g
  let release := due - w32 pre
  { entry := e.id, cueIndex := index, story := e.story, channel := cue.channel, action := cue.action, argument := cue.argument,
    anchor := cue.anchor, value := cue.value, takeIndex := ts, due := due, preRoll := pre, release := release,
    released := false, loadOrder := s.sched.nextLoad, ripe := loadRipeness s.sched.atEdge release s.now }

/-- One cue loaded into the lowest-numbered free slot. -/
def loadSlot (e : Entry) (g : Nat) (ts : Word) (index : Nat) (cue : Cue) (i : Fin 32) (s : State) : State :=
  let t := putSlot i (some (slotOf s e g ts index cue)) s
  { t with sched := { t.sched with nextLoad := t.sched.nextLoad + 1 } }

/-- The START and END cues loaded in cue-list order; the first that finds no free slot, and all after it, are left out:
SCHEDULE_FULL is appended and posted (R97, R98). -/
def loadCues (e : Entry) (g : Nat) (ts : Word) : List (Cue × Nat) → State → State
  | [], s => s
  | (cue, index) :: rest, s =>
    match s.sched.freeSlot? with
    | some i => loadCues e g ts rest (loadSlot e g ts index cue i s)
    | none =>
      let left := rest.length + 1
      post (.scheduleFull e.id e.story left none) (append .scheduleFull (some e.id) (some e.story) none left s)

/-- The START and END cues of an entry with their cue indices (R97). -/
def Entry.timedCues (e : Entry) : List (Cue × Nat) := e.cues.zipIdx.filter fun p => p.1.anchor != .mark

/-- The entry taken is loaded into the schedule (R97). -/
def loadSchedule (e : Entry) (g : Nat) (ts : Word) (s : State) : State := loadCues e g ts e.timedCues s

/-- A slot at the beginning of a frame: a WAITING slot whose release index is reached is to be released (R99). -/
def Slot.newFrame (x : Slot) (now : Word) : Slot :=
  { x with ripe := if !x.released && atOrBefore x.release now then .due else .no }

/-- The slot is waiting to be released to the channel at the present edge. -/
def Slot.ripeFor (x : Slot) (c : Fin 16) (must : Bool) : Bool :=
  x.channel == c && !x.released && (x.ripe == .due || (!must && x.ripe == .may))

/-- Slot x is delivered before slot y: an earlier due index, or an equal one and an earlier load (R99). Due indices are
compared from the frame in progress, as every index of the schedule lies near it (R96). -/
def Slot.before (now : Word) (x y : Slot) : Bool :=
  let dx := (x.due - now).toInt
  let dy := (y.due - now).toInt
  decide (dx < dy) || (decide (dx = dy) && decide (x.loadOrder < y.loadOrder))

/-- The earlier of two slots to be delivered. -/
def earlier (now : Word) (best : Option (Fin 32 × Slot)) (p : Fin 32 × Slot) : Option (Fin 32 × Slot) :=
  match best with
  | none => some p
  | some q => if p.2.before now q.2 then some p else best

/-- The slot to be delivered next to a channel at the present edge (R99). `must`: only slots that are to be released at
this edge in any case. -/
def nextRelease (s : State) (c : Fin 16) (must : Bool) : Option (Fin 32 × Slot) :=
  (List.finRange 32).foldl (fun best i =>
    match s.sched.slots[i] with
    | some x => if x.ripeFor c must then earlier s.now best (i, x) else best
    | none => best) none

/-- The request a released slot delivers (R99). -/
def Slot.request (x : Slot) (i : Fin 32) : Request :=
  { origin := .schedule (some i), action := x.action, argument := x.argument, entry := some x.entry, story := some x.story,
    cueIndex := some x.cueIndex, due := some x.due }

/-- A slot is released: RELEASED, and its request delivered to its channel (R99). -/
def releaseSlot (i : Fin 32) (x : Slot) (s : State) : State :=
  deliver x.channel (x.request i) (putSlot i (some { x with released := true, ripe := .no }) s)

/-- The next release to a channel at the present edge, if one is to be made (R99). -/
def releaseNext (c : Fin 16) (must : Bool) (s : State) : State :=
  match nextRelease s c must with
  | some (i, x) => releaseSlot i x s
  | none => s

/-- All the releases to a channel that the present edge owes (R99): at most one for each of the 32 slots. -/
def releaseAll (c : Fin 16) (s : State) : State := forEach (List.range 32) (fun _ t => releaseNext c true t) s

/-- The WAITING END slot recomputed from a new target (R101). -/
def Slot.recompute (x : Slot) (g : Nat) : Slot :=
  let due := dueOf .finish x.value x.takeIndex g
  { x with due := due, release := due - w32 x.preRoll, ripe := .no }

/-- A slot as a new target of the programme entry leaves it: recomputed where it is a WAITING END slot of that entry and
its indices change (R101). -/
def Slot.retarget (x : Slot) (id g : Nat) : Slot :=
  if x.entry = id ∧ x.anchor = .finish ∧ x.released = false ∧ dueOf .finish x.value x.takeIndex g ≠ x.due then x.recompute g else x

/-- The WAITING END slots of the programme entry are recomputed from its new target (R101). -/
def recomputeEnds (id g : Nat) (s : State) : State :=
  let slots := mapTable (fun _ o => o.map fun x => x.retarget id g) s.sched.slots
  { s with sched := { s.sched with slots := slots } }

/-- A WAITING slot is cancelled and freed, with CANCELLED (R42; R102, step 1). -/
def cancelSlot (i : Fin 32) (x : Slot) (s : State) : State :=
  appendRecord .cancelled (some x.entry) (some x.story) (some x.channel) (some x.cueIndex) none 0 (putSlot i none s)

/-- The waiting request of a channel came from the slot. -/
def Channel.waitsFor (ch : Channel) (i : Fin 32) : Bool :=
  match ch.waiting with
  | some r => r.origin == .schedule (some i)
  | none => false

/-- Step 1 of a purge at slot i. -/
def purgeWaitingSlot (id : Nat) (i : Fin 32) (s : State) : State :=
  match s.sched.slots[i] with
  | some x => if x.entry = id ∧ x.released = false then cancelSlot i x s else s
  | none => s

/-- Step 2 of a purge at slot i: a RELEASED slot whose request waits on its channel. -/
def purgeWaitingRequest (id : Nat) (i : Fin 32) (s : State) : State :=
  match s.sched.slots[i] with
  | some x => if x.entry = id ∧ x.released = true ∧ (s.channel x.channel).waitsFor i = true then cancelWaiting x.channel s else s
  | none => s

/-- A request in flight gives up its schedule slot (R102, step 3). -/
def giveUpSlot (i : Fin 32) (ch : Channel) : Channel :=
  { ch with inFlight := ch.inFlight.map fun fl =>
      if fl.req.origin = .schedule (some i) then { fl with req := { fl.req with origin := .schedule none } } else fl }

/-- Step 3 of a purge at slot i: a RELEASED slot whose request is in flight. -/
def purgeInFlight (id : Nat) (i : Fin 32) (s : State) : State :=
  match s.sched.slots[i] with
  | some x =>
    if x.entry = id ∧ x.released = true then putSlot i none (putChannel x.channel (giveUpSlot i (s.channel x.channel)) s) else s
  | none => s

/-- The purge of an entry leaving air (R102). Slots are taken in rising number within a step (log entry 8). -/
def purgeEntry (id : Nat) (s : State) : State :=
  forEach (List.finRange 32) (purgeInFlight id)
    (forEach (List.finRange 32) (purgeWaitingRequest id)
      (forEach (List.finRange 32) (purgeWaitingSlot id) s))

/-- A request came from a cue: origin SCHEDULE or MARK (R103). -/
def Request.fromCue (r : Request) : Bool :=
  match r.origin with
  | .schedule _ => true
  | .mark => true
  | _ => false

/-- The alert's cancellation at slot i: a WAITING slot of an entry other than the fallback (R103). -/
def alertCancelSlot (fallback : Option Nat) (i : Fin 32) (s : State) : State :=
  match s.sched.slots[i] with
  | some x => if x.released = false ∧ fallback ≠ some x.entry then cancelSlot i x s else s
  | none => s

/-- The alert's cancellation at a channel: a waiting request from a cue of an entry other than the fallback (R103). -/
def alertCancelChannel (fallback : Option Nat) (c : Fin 16) (s : State) : State :=
  match (s.channel c).waiting with
  | some r => if r.fromCue = true ∧ (fallback = none ∨ fallback ≠ r.entry) then cancelWaiting c s else s
  | none => s

/-- The alert's cancellation of the waiting work of every entry other than the fallback (R103). Slots, then channels, in
rising number (log entry 8). -/
def alertCancel (fallback : Option Nat) (s : State) : State :=
  forEach (List.finRange 16) (alertCancelChannel fallback) (forEach (List.finRange 32) (alertCancelSlot fallback) s)

end Sys2Proof.Machine
end

