-- ==== Sys2Proof/Machine/TimingOps.lean ====
section
/-! DEFINITION. The timing engine: the view of a pass, the arithmetic of the segments, the published set, and the
reporting of changes (chapter 4). -/

namespace Sys2Proof.Machine

/-! ### The view (R87) -/

/-- A figure of the baseline whose entry has been freed and its id taken again keeps its place under the number 0, which is no
entry's, so that no figure of a later set is compared with it (R24, R93). -/
def forgetIds {α : Type} (ids : List Nat) (ps : List (Nat × α)) : List (Nat × α) :=
  ps.map fun p => if ids.contains p.1 then (0, p.2) else p

/-- The baseline as it stands once NEW ENTRY has taken these ids: what it holds under them is of entries that are gone (R24,
R93). DEDUCED: log entry 33. -/
def Baseline.forget (ids : List Nat) (b : Baseline) : Baseline :=
  { b with starts := forgetIds ids b.starts, slacks := forgetIds ids b.slacks }

/-- A timing pass begins: it takes its view and takes over the timing-dirty mark, which the store clears (R26, R87). The entries
created since the published set's view are in this one, and are other entries than those the baseline holds under their
ids (R24, R93). -/
def beginPass (s : State) : State :=
  let v : View := { order := s.store.order, pgm := s.tkc.pgm, source := s.clock.frame, tod := s.clock.tod, mode := s.clock.mode,
                    tookDirty := s.store.dirty, created := [] }
  { s with timing := { s.timing with view := some v, baseline := s.timing.baseline.forget s.timing.created },
           store := { s.store with dirty := false } }

/-- An entry is created: neither the published set nor a pass in flight has seen it (R59, R89). -/
def noteCreated (id : Nat) (s : State) : State :=
  { s with timing := { s.timing with
      created := id :: s.timing.created, view := s.timing.view.map fun v => { v with created := id :: v.created } } }

/-- PENDING: the store's mark is set, or a pass in flight took over a set mark (R89). -/
def State.timingPending (s : State) : Bool :=
  s.store.dirty || (match s.timing.view with
    | some v => v.tookDirty
    | none => false)

/-! ### What is timed (R74 to R76) -/

/-- An entry on the walk is counted: READY or ARMED, and not floated (R74). -/
def Entry.counted (e : Entry) : Bool := (e.state == .ready || e.state == .armed) && !e.float

/-- The counted entries of a view, in running order (R74). -/
def View.counted (v : View) : List Entry := (entriesAhead v.order v.pgm).filter fun e => e.counted

/-- The margin of a member: E − Min when Min is present and below E, and 0 otherwise (R80). -/
def Entry.margin (e : Entry) : Nat :=
  match e.minimum with
  | some m => e.duration - m
  | none => 0

/-- The counted entries cut at the posts: each piece is the members before a post, with the post, and the last piece has
none (R75). -/
def cutAtPosts : List Entry → List (List Entry × Option Entry)
  | [] => [([], none)]
  | e :: rest =>
    if e.hardPost.isSome then ([], some e) :: cutAtPosts rest
    else
      match cutAtPosts rest with
      | [] => [([e], none)]
      | (ms, p) :: more => (e :: ms, p) :: more

/-- The programme entry's timing in a view (R76). -/
def View.pgmTiming (v : View) : Option PgmTiming :=
  v.pgm.bind fun p => (v.order.find? fun e => e.id == p.id).bind fun e => e.takeIndex.map fun ts =>
    let r := remainingOf p.target ts v.source
    { id := p.id, target := p.target, elapsed := (v.source - ts).toNat, remaining := r, demand := r.toNat }

/-! ### The arithmetic of a segment (R78 to R83) -/

/-- The sum of the effective durations. -/
def durations (ms : List Entry) : Nat := (ms.map fun e => e.duration).sum

/-- The available margin (R80). -/
def availableMargin (ms : List Entry) : Nat := (ms.map fun e => e.margin).sum

/-- The base trim of a member: floor(Tt · m / A), and 0 when A is 0 (R82, step 1). -/
def baseTrim (tt a m : Nat) : Nat := tt * m / a

/-- The leftover given one frame at a time from the last member to the first, to members whose trim is below their
margin: the trims, and the leftover still to be given to the members before (R82, step 3). -/
def giveLeftover (tt a : Nat) : List Entry → Nat → List Nat × Nat
  | [], l => ([], l)
  | e :: rest, l =>
    let (ts, l') := giveLeftover tt a rest l
    let t := baseTrim tt a e.margin
    if 0 < l' ∧ t < e.margin then ((t + 1) :: ts, l' - 1) else (t :: ts, l')

/-- The trims of a segment's members for a trim total (R82). -/
def trims (tt : Nat) (ms : List Entry) : List Nat :=
  let a := availableMargin ms
  let base := (ms.map fun e => baseTrim tt a e.margin).sum
  (giveLeftover tt a ms (tt - base)).1

/-- The start of a segment: its time of day, its offset from N, its opening demand and its opening entry. -/
structure Opening where
  start : Nat
  offset : Nat
  demand : Nat
  opener : Nat
  deriving DecidableEq, Repr

/-- The day count of an offset (R85). -/
def dayOf (d n offset : Nat) : Nat := min 3 ((n + offset) / d)

/-- The records of a segment's members laid end to end from an offset (R84, R85). -/
def layMembers (d n number : Nat) : List (Entry × Nat) → Nat → List TimingRecord
  | [], _ => []
  | (e, t) :: rest, offset =>
    let advised := e.duration - t
    { id := e.id, segment := number, isPost := false, effective := e.duration, margin := e.margin, trim := t,
      advised := advised, start := (n + offset) % d, day := dayOf d n offset }
      :: layMembers d n number rest (offset + advised)

/-- The figures of a closed segment (R78 to R81, R84, R85). -/
def closedFigures (d n : Nat) (o : Opening) (ms : List Entry) (p : Entry) : SegmentFigures :=
  let label := p.hardPost.getD 0
  let dist := halfDay d o.start label
  let demand := o.demand + durations ms
  let slack := dist - (demand : Int)
  let need := (-slack).toNat
  let margin := availableMargin ms
  let tt := min need margin
  let residual := need - tt
  let offset := ((o.offset : Int) + dist + (residual : Int)).toNat
  { post := p.id, label := label, distance := dist, demand := demand, slack := slack, fill := slack.toNat, need := need,
    margin := margin, trimTotal := tt, residual := residual, postStart := (label + residual) % d,
    postDay := dayOf d n offset }

/-- The record of a post: it opens the next segment, and has no margin and no trim (R75, R80, R83, R90). -/
def postRecord (p : Entry) (number : Nat) (f : SegmentFigures) : TimingRecord :=
  { id := p.id, segment := number, isPost := true, effective := p.duration, margin := 0, trim := 0, advised := p.duration,
    start := f.postStart, day := f.postDay }

/-- The record of a segment (R91). -/
def segmentRecord (d n number : Nat) (o : Opening) (ms : List Entry) (f : Option SegmentFigures) : Segment :=
  { number := number, firstMember := (ms.head?.map fun e => e.id).getD 0, members := ms.length, opener := o.opener,
    openDemand := o.demand, start := o.start, startDay := dayOf d n o.offset, closed := f }

/-- The segments worked one after another (R78 to R86): a late post carries its lateness into the next. -/
def workSegments (d n : Nat) : List (List Entry × Option Entry) → Nat → Opening → List TimingRecord × List Segment
  | [], _, _ => ([], [])
  | (ms, none) :: rest, number, o =>
    let (rs, ss) := workSegments d n rest (number + 1) o
    (layMembers d n number (ms.map fun e => (e, 0)) (o.offset + o.demand) ++ rs, segmentRecord d n number o ms none :: ss)
  | (ms, some p) :: rest, number, o =>
    let f := closedFigures d n o ms p
    let offset := ((o.offset : Int) + f.distance + (f.residual : Int)).toNat
    let next : Opening := { start := f.postStart, offset := offset, demand := p.duration, opener := p.id }
    let (rs, ss) := workSegments d n rest (number + 1) next
    (layMembers d n number (ms.zip (trims f.trimTotal ms)) (o.offset + o.demand) ++ postRecord p (number + 1) f :: rs,
      segmentRecord d n number o ms (some f) :: ss)

/-- The opening of segment 0: the time of day N and the on-air demand of the programme entry (R76, R78). -/
def View.opening (v : View) : Opening :=
  { start := v.tod, offset := 0, demand := (v.pgmTiming.map fun p => p.demand).getD 0,
    opener := (v.pgmTiming.map fun p => p.id).getD 0 }

/-- The timing set a view gives (R74 to R88). -/
def computeSet (generation : Word) (v : View) : TimingSet :=
  let worked := workSegments v.mode.day v.tod (cutAtPosts v.counted) 0 v.opening
  { generation := generation, source := v.source, tod := v.tod, mode := v.mode, pgm := v.pgmTiming,
    records := worked.1, segments := worked.2 }

/-! ### The published set read (R81, R89 to R91, R165) -/

/-- The figures of segment 0 of a set, present when it is closed (R81). -/
def TimingSet.current (t : TimingSet) : Option SegmentFigures := t.segments.head?.bind fun g => g.closed

/-- OVER: the residual of segment 0 is above 0 (R81). -/
def TimingSet.over (t : TimingSet) : Bool :=
  match t.current with
  | some f => decide (0 < f.residual)
  | none => false

/-- UNDER: the fill of segment 0 is above the under threshold (R165). -/
def TimingSet.under (t : TimingSet) (threshold : Nat) : Bool :=
  match t.current with
  | some f => decide (threshold < f.fill)
  | none => false

/-- The record of an id in a timing set (R90). -/
def TimingSet.record? (t : TimingSet) (id : Nat) : Option TimingRecord := t.records.find? fun r => r.id == id

/-- The record the last published set carries for an entry: none for an entry created since its view was taken, whatever it
holds of a freed entry of the same id (R24, R59, R89, R90). -/
def Timing.record? (t : Timing) (id : Nat) : Option TimingRecord :=
  if t.created.contains id then none else t.published.record? id

/-! ### Reporting (R92 to R94) -/

/-- The baseline a set gives (R92). -/
def TimingSet.baseline (t : TimingSet) : Baseline :=
  { starts := t.records.map fun r => (r.id, r.start),
    slacks := t.segments.filterMap fun g => g.closed.map fun f => (f.post, decide (f.slack < 0)),
    mode := t.mode }

/-- The value a list of pairs gives a key. -/
def lookupPair {α : Type} (k : Nat) (ps : List (Nat × α)) : Option α := (ps.find? fun p => p.1 == k).map fun p => p.2

/-- An entry with a projected start in the new figures has moved against the old ones (R93). -/
def movedAgainst (threshold d : Nat) (old : List (Nat × Nat)) (p : Nat × Nat) : Bool :=
  match lookupPair p.1 old with
  | some q => decide (threshold < (halfDay d q p.2).natAbs)
  | none => true

/-- The number of entries that moved (R93): those with a start in both that differ by more than the threshold, those with
a start in exactly one, and, when the modes differ, every entry with a start. An entry that took a freed id since the baseline
is another entry than the one the baseline holds (`Baseline.forget`, log entry 33), so that the number can be as high as 480,
which its byte in the notice does not hold (log entry 42). -/
def movedCount (threshold d : Nat) (old new : Baseline) : Nat :=
  let gone := (old.starts.filter fun p => (lookupPair p.1 new.starts).isNone).length
  let here := (new.starts.filter fun p => new.mode != old.mode || movedAgainst threshold d old.starts p).length
  gone + here

/-- A slack class changed, or a post closes a segment in exactly one of the two (R93). -/
def slackChanged (old new : Baseline) : Bool :=
  (new.slacks.any fun p => lookupPair p.1 old.slacks != some p.2) || (old.slacks.any fun p => (lookupPair p.1 new.slacks).isNone)

/-- The hold-off has passed at source frame x, or no notice has been posted since the last reset (R94). -/
def Timing.mayReport (t : Timing) (x : Word) : Bool :=
  match t.lastNotice with
  | none => true
  | some w => decide (t.holdOff ≤ (x - w).toNat)

/-- The TIMING_CHANGED notice for a set (R94).
DESIGN CHOICE (log entry 34): the programme entry it carries is the set's, that is the view's, also where a take has come
between the view and the publication. -/
def timingNotice (t : TimingSet) (moved : Nat) (slack held : Bool) : Notice :=
  .timingChanged t.generation t.source (decide (0 < moved)) slack held moved ((t.pgm.map fun p => p.id).getD 0)
    (t.current.map fun f => (f.post, f.slack))

/-- After a publication: a change, or a pending one, is posted or held back (R93, R94). -/
def reportTiming (s : State) : State :=
  let t := s.timing
  let new := t.published.baseline
  let moved := movedCount t.threshold t.published.mode.day t.baseline new
  let slack := slackChanged t.baseline new
  if (decide (0 < moved) || slack || t.suppressed) = true then
    if t.mayReport t.published.source then
      post (timingNotice t.published moved slack t.suppressed)
        { s with timing := { t with baseline := new, lastNotice := some t.published.source, suppressed := false } }
    else { s with timing := { t with suppressed := true } }
  else s

/-- A pass in flight completes and publishes the whole set with the next generation (R88). -/
def publish (s : State) : State :=
  match s.timing.view with
  | none => s
  | some v =>
    let set := computeSet (s.timing.published.generation + 1) v
    reportTiming { s with timing := { s.timing with view := none, published := set, created := v.created } }

end Sys2Proof.Machine
end

