-- ==== Sys2Proof/Machine/StationOps.lean ====
section
/-! DEFINITION. The operations of the two presenter stations: classifying and counting encoder edges, jumps, the mark
list, lamps, and the countdown (chapter 6). -/

namespace Sys2Proof.Machine

/-! ### Counting (R126, R127) -/

/-- The eight counted conditions, U1 to U4 and D1 to D4, numbered 0 to 7 in the order of R126's table; the enable set
carries them in bits 0 to 7 (DEDUCED, log entry 6). -/
def conditionOf (line : EncoderLine) (rising other : Bool) : Fin 8 :=
  match line, rising, other with
  | .pa, true, false => 0
  | .pb, true, true => 1
  | .pa, false, true => 2
  | .pb, false, false => 3
  | .pa, true, true => 4
  | .pb, true, false => 5
  | .pa, false, false => 6
  | .pb, false, true => 7

/-- A condition counts as an increment (R126). -/
def conditionIsUp (k : Fin 8) : Bool := decide (k.val < 4)

/-- The level of the other line when an edge of a line is taken (R126). -/
def Station.otherLevel (x : Station) : EncoderLine → Bool
  | .pa => x.pb
  | .pb => x.pa

/-- The line's level after an edge. -/
def Station.takeLine (x : Station) (line : EncoderLine) (rising : Bool) : Station :=
  match line with
  | .pa => { x with pa := rising }
  | .pb => { x with pb := rising }

/-- The position after a counted edge: clamped, never wrapping (R127). -/
def countedPosition (p step : Nat) (up : Bool) : Nat := if up then min (p + step) Config.maxScroll else p - step

/-! ### The mark list (R132 to R138) -/

/-- The mark is ARMED and lies above p and at or below q (R135, R136, R137). -/
def Mark.crossed (m : Mark) (p q : Nat) : Bool := m.state == .armed && decide (p < m.position) && decide (m.position ≤ q)

/-- The marks crossed by a move become `new`. -/
def crossMarks (new : MarkState) (p q : Nat) (ms : List Mark) : List Mark :=
  ms.map fun m => if m.crossed p q then { m with state := new } else m

/-- The request a mark delivers (R135). -/
def Mark.request (m : Mark) : Request :=
  { origin := .mark, action := m.action, argument := m.argument, entry := some m.entry, story := some m.story,
    cueIndex := some m.cueIndex, due := none }

/-- An as-run record of a mark, with its entry, STORY_REF, channel and cue index (R42). -/
def appendMark (kind : AsRunKind) (m : Mark) (value : Nat) (s : State) : State :=
  appendRecord kind (some m.entry) (some m.story) (some m.channel) (some m.cueIndex) none value s

/-- A mark fires: its record, its notice, and its request delivered (R135, steps 2 and 3). -/
def fireMark (st : StationId) (m : Mark) (s : State) : State :=
  deliver m.channel m.request (post (.markFired st { m with state := .fired } s.now) (appendMark .markFired m 0 s))

/-- The cause code of a SUPPRESSED record of a mark (R179). -/
def markCause : Nat := 258

/-- A counted forward move acts on the mark list: it fires the marks crossed in NORMAL (R135) and skips them in SAFE
(R136). -/
def crossByCount (st : StationId) (p q : Nat) (s : State) : State :=
  let x := s.station st
  let crossed := x.marks.filter fun m => m.crossed p q
  match s.tkc.engine with
  | .normal => forEach crossed (fireMark st) (putStation st { x with marks := crossMarks .fired p q x.marks } s)
  | .safe =>
    forEach crossed (fun m t => appendMark .suppressed m markCause t)
      (putStation st { x with marks := crossMarks .skipped p q x.marks } s)

/-- A forward jump skips the marks it passes (R137). -/
def crossByJump (st : StationId) (p q : Nat) (s : State) : State :=
  let x := s.station st
  let crossed := x.marks.filter fun m => m.crossed p q
  forEach crossed (fun m t => appendMark .markSkipped m 0 t) (putStation st { x with marks := crossMarks .skipped p q x.marks } s)

/-- The number of marks a jump skips (R129). -/
def skippedByJump (x : Station) (q : Nat) : Nat := (x.marks.filter fun m => m.crossed x.position q).length

/-- The position jumps; a forward jump acts on the mark list (R129, R130). No mark lies above p and at or below q when q
is not above p, so a backward jump changes no mark. -/
def jumpTo (st : StationId) (q : Nat) (s : State) : State :=
  let x := s.station st
  crossByJump st x.position q (putStation st { x with position := q } s)

/-- A mark is inserted after every mark at or below its position (R133). -/
def insertMark (m : Mark) : List Mark → List Mark
  | [] => [m]
  | k :: rest => if k.position ≤ m.position then k :: insertMark m rest else m :: k :: rest

/-- The mark a MARK cue of entry e becomes at position p (R133). -/
def markOf (e : Entry) (index : Nat) (cue : Cue) (p : Nat) : Mark :=
  { entry := e.id, cueIndex := index, story := e.story, position := cue.value, channel := cue.channel, action := cue.action,
    argument := cue.argument, state := if p < cue.value then .armed else .skipped }

/-- One MARK cue loaded: a mark at or below the position is SKIPPED at once, with its record (R133). -/
def loadMark (st : StationId) (e : Entry) (index : Nat) (cue : Cue) (s : State) : State :=
  let x := s.station st
  let m := markOf e index cue x.position
  let t := putStation st { x with marks := insertMark m x.marks } s
  if m.state = .skipped then appendMark .markSkipped m 0 t else t

/-- The MARK cues loaded in cue-list order; the first that finds 16 marks, and all after it, are left out (R133,
R134). -/
def loadMarkCues (st : StationId) (e : Entry) : List (Cue × Nat) → State → State
  | [], s => s
  | (cue, index) :: rest, s =>
    if (s.station st).marks.length < Config.maxMarks then loadMarkCues st e rest (loadMark st e index cue s)
    else
      let left := rest.length + 1
      post (.scheduleFull e.id e.story left (some st)) (append .scheduleFull (some e.id) (some e.story) none left s)

/-- The MARK cues of an entry that name a station, with their cue indices (R133). -/
def Entry.markCues (e : Entry) (st : StationId) : List (Cue × Nat) :=
  e.cues.zipIdx.filter fun p => p.1.anchor == .mark && p.1.station == some st

/-- A station at step 4 of a take of entry e: the station it names clears READY and, with FOLLOW on, jumps to
SCRIPT_START; either station then loads the MARK cues that name it (R130). -/
def stationTake (e : Entry) (st : StationId) (s : State) : State :=
  let s1 :=
    if e.station = some st then
      let x := s.station st
      let t := putStation st { x with ready := false } s
      match x.follow, e.scriptStart with
      | true, some q => jumpTo st q t
      | _, _ => t
    else s
  loadMarkCues st e (e.markCues st) s1

/-- The waiting request of a channel came from the mark (R138). -/
def Channel.waitsForMark (ch : Channel) (m : Mark) : Bool :=
  match ch.waiting with
  | some r => r.origin == .mark && r.entry == some m.entry && r.cueIndex == some m.cueIndex
  | none => false

/-- The removal of one mark of an entry leaving air (R138). -/
def removeMark (m : Mark) (s : State) : State :=
  match m.state with
  | .armed => appendMark .cancelled m 0 s
  | .fired => if (s.channel m.channel).waitsForMark m then cancelWaiting m.channel s else s
  | .skipped => s

/-- The marks of an entry leaving air are removed from a station's list, in list order (R138). -/
def removeMarks (id : Nat) (st : StationId) (s : State) : State :=
  let x := s.station st
  let gone := x.marks.filter fun m => m.entry == id
  forEach gone removeMark (putStation st { x with marks := x.marks.filter fun m => m.entry != id } s)

/-! ### Lamps (R140 to R142) -/

/-- An entry's STATION names the station. -/
def namesStation (e : Option Entry) (st : StationId) : Bool :=
  match e with
  | some x => x.station == some st
  | none => false

/-- The computed lamp state (R140). -/
def computedLamp (s : State) (st : StationId) : LampState :=
  let x := s.station st
  if namesStation s.pgmEntry? st then
    match s.liveRemaining with
    | some r => if 0 < x.wrapLead ∧ r ≤ (x.wrapLead : Int) then .wrap else .onCue
    | none => .onCue
  else if namesStation s.armedEntry? st then .standby
  else .dark

/-- The shown lamp state (R141). -/
def shownLamp (s : State) (st : StationId) : LampState :=
  match (s.station st).override with
  | some o => o.state
  | none => computedLamp s st

/-- The levels of STBY, CUE and WRAP (R142). -/
def LampState.lines : LampState → Bool × Bool × Bool
  | .dark => (false, false, false)
  | .standby => (true, false, false)
  | .onCue => (false, true, false)
  | .wrap => (false, true, true)

/-- A station's override replaced (R141). -/
def setOverride (st : StationId) (o : Option Override) (s : State) : State := putStation st { s.station st with override := o } s

/-! ### Countdown (R143) -/

/-- The countdown for a remaining time and a rate (R143). -/
def countdownOf (f : Nat) (rem : Int) : Int :=
  let raw : Int := if 0 < rem then (rem + (f : Int) - 1) / (f : Int) else -((-rem) / (f : Int))
  max (-9999) (min 9999 raw)

/-- The remaining time a station counts down: present while the programme entry names the station (R143). -/
def stationRemaining (s : State) (st : StationId) : Option Int :=
  if namesStation s.pgmEntry? st then s.liveRemaining else none

/-- A station recomputes its countdown and posts COUNTDOWN when the value changes (R143).
DESIGN CHOICE (log entry 45): the rem of a COUNTDOWN whose countdown is absent is the programme entry's live remaining time,
absent where no entry is on air; R143 has the station take rem only where the countdown is present. -/
def updateCountdown (st : StationId) (s : State) : State :=
  let x := s.station st
  let rem := stationRemaining s st
  let value := rem.map (countdownOf s.clock.mode.rate)
  let t := putStation st { x with countdown := value, countRem := rem } s
  if value = x.countdown then t else post (.countdown st value s.pgmId s.liveRemaining s.now) t

/-- Both stations recompute their countdowns. -/
def updateCountdowns (s : State) : State := updateCountdown .b (updateCountdown .a s)

end Sys2Proof.Machine
end

