-- ==== Sys2Proof/Machine/TriggerOps.lean ====
section
/-! DEFINITION. The operations of the trigger units: which events meet a unit's condition, the sequence of a group, and
what a unit hands on when it acts (chapter 7). -/

namespace Sys2Proof.Machine

/-- The group a unit belongs to (section 7.1). -/
def groupOf (u : Fin 8) : Fin 2 := if u.val < 4 then 0 else 1

/-- The stage of a unit in its group's sequence of the last k units, or none where it stands alone (R148). -/
def stageIn (k : Nat) (u : Fin 8) : Option Nat :=
  let p := u.val % 4
  if 4 - k ≤ p then some (p - (4 - k)) else none

/-- A unit is the final unit of its group's sequence (R148). -/
def isFinal (u : Fin 8) : Bool := u.val % 4 == 3

/-- A unit's group record. -/
def Triggers.group (t : Triggers) (u : Fin 8) : TriggerGroup := t.groups[groupOf u]

/-- The masked TIME comparison against a time of day (R152); false for the other conditions. -/
def timeComparison (m : Mode) (tod : Nat) : Condition → Bool
  | .time label mask => maskedEqual mask (labelOf m tod) label
  | _ => false

/-- An event meets a condition (R152 to R155). `live` is the live remaining time after the event. -/
def conditionMet (m : Mode) (tod : Nat) (live last : Option Int) (x : TriggerUnit) (ev : TriggerEvent) : Bool :=
  match x.condition, ev with
  | .time label mask, .edge => maskedEqual mask (labelOf m tod) label && !x.timeMemory
  | .entryOnAir id, .onAir e => id == e
  | .entryDone id, .gone e => id == e
  | .remaining n, .edge => live == some (n : Int) && last != some (n : Int) && !x.spent
  | .remaining n, .target => live == some (n : Int) && last != some (n : Int) && !x.spent
  | .remaining n, .start value => value == some (n : Int) && !x.spent
  | .gpi i rising, .gpi j r => i == j && rising == r
  | .markPassed st pos, .move st' .up p q => st == st' && decide (p < pos) && decide (pos ≤ q)
  | _, _ => false

/-- The event is counted at the unit: it is enabled, its condition is met, and it stands alone or at its group's current
stage (R156). -/
def unitCounts (s : State) (ev : TriggerEvent) (u : Fin 8) : Bool :=
  let x := s.triggers.units[u]
  let g := s.triggers.group u
  x.enable && conditionMet s.clock.mode s.clock.tod s.liveRemaining s.triggers.lastRemaining x ev
    && (match stageIn g.chain u with
        | none => true
        | some j => j == g.stage)

/-- A counted unit acts: it stands alone or is the final unit (R156). -/
def unitActs (s : State) (u : Fin 8) : Bool :=
  isFinal u || (stageIn (s.triggers.group u).chain u).isNone

/-- The condition is a REMAINING condition (R154). -/
def Condition.isRemaining : Condition → Bool
  | .remaining _ => true
  | _ => false

/-- A unit whose match is counted: the latch is set, and the spent flag of a REMAINING condition (R154, R156). -/
def TriggerUnit.matched (x : TriggerUnit) : TriggerUnit :=
  { x with latch := true, spent := x.spent || x.condition.isRemaining }

/-- The remaining time the latest test was made with, once an event has been tested: a take's starting value is the event's own,
and an edge and a replacement of the target test the live one (R154). -/
def TriggerEvent.tested (live last : Option Int) : TriggerEvent → Option Int
  | .edge => live
  | .start value => value
  | .target => live
  | _ => last

/-- What the test of an event leaves at the units, whichever of them it meets: at a frame edge every time memory takes the
new comparison, and a test of the remaining time leaves the value it was made with (R152, R154). `met` is the number of
units met. -/
def eventTested (ev : TriggerEvent) (met : Nat) (s : State) : State :=
  { s with triggers := { s.triggers with
      units := if ev = .edge
        then mapTable (fun _ x => { x with timeMemory := timeComparison s.clock.mode s.clock.tod x.condition }) s.triggers.units
        else s.triggers.units,
      lastRemaining := ev.tested s.liveRemaining s.triggers.lastRemaining,
      meetings := if met ≤ 1 then s.triggers.meetings else s.triggers.meetings + 1 } }

/-- A sequence reset of a group: the stage is 0 and the latches of the sequence's units before the final one are clear
(R157). -/
def resetSequence (g : Fin 2) (s : State) : State :=
  let k := s.triggers.groups[g].chain
  let units := mapTable (fun u x =>
    if groupOf u = g ∧ (stageIn k u).isSome = true ∧ isFinal u = false then { x with latch := false } else x) s.triggers.units
  { s with triggers := { s.triggers with
      units := units, groups := s.triggers.groups.set g { s.triggers.groups[g] with stage := 0 } } }

/-- The take's reset at step 4: both sequences, every latch and every spent flag (R157). -/
def resetAllTriggers (s : State) : State :=
  { s with triggers := { s.triggers with
      units := mapTable (fun _ x => { x with latch := false, spent := false }) s.triggers.units,
      groups := mapTable (fun _ x => { x with stage := 0 }) s.triggers.groups } }

/-- A trigger unit's request waits for the take in hand to be whole (R70). -/
def requestTkc (acted : Bool) (u : Fin 8) (a : TkcAction) (s : State) : State :=
  { s with tkc := { s.tkc with requests := s.tkc.requests ++ [{ unit := u, action := a, acted := acted }] } }

/-- The immediate request a FIRE action delivers (R158). -/
def triggerRequest (u : Fin 8) (action : ChanAction) (argument : Half) : Request :=
  { origin := .trigger u, action := action, argument := argument, entry := none, story := none, cueIndex := none, due := none }

/-- The stage a group shows after a unit's act (R161). -/
def stageAfterAct (s : State) (u : Fin 8) : Nat := if isFinal u then 0 else (s.triggers.group u).stage

/-- The request of a TAKE or ARM action (R158). -/
def Action.tkcAction? : Action → Option TkcAction
  | .take => some .take
  | .arm id => some (.arm id)
  | _ => none

/-- What a unit hands on when it acts (R158), or what stands in its place in SAFE (R159). `tkc` is how the take controller
takes a unit's request at that moment. -/
def handAction (tkc : Fin 8 → TkcAction → State → State) (u : Fin 8) (s : State) : State :=
  let x := s.triggers.units[u]
  match s.tkc.engine, x.action with
  | .normal, .fire c a arg => deliver c (triggerRequest u a arg) s
  | .safe, .fire c _ _ => append .suppressed none none (some c) u.val s
  | .normal, .take => tkc u .take s
  | .safe, .take => append .suppressed none none none u.val s
  | .normal, .arm id => tkc u (.arm id) s
  | .safe, .arm id => append .suppressed (some id) ((s.entry? id).map fun e => e.story) none u.val s
  | _, .lamp st l => setOverride st (some { state := l, source := .trigger }) s
  | _, .notify => post (.triggerFired u x.condition.code s.now s.todWord (stageAfterAct s u)) s
  | _, .nothing => s

/-- A SINGLE unit sets its own enable off (R158, step 2). -/
def disableSingle (u : Fin 8) (s : State) : State :=
  let x := s.triggers.units[u]
  match x.mode with
  | .single => putUnit u { x with enable := false } s
  | .repeating => s

/-- A unit acts: steps 1 to 3 of R158. -/
def actUnit (tkc : Fin 8 → TkcAction → State → State) (u : Fin 8) (s : State) : State :=
  let t := disableSingle u (handAction tkc u s)
  if isFinal u then resetSequence (groupOf u) t else t

/-- A unit of a sequence, not the final one, whose match is counted: where it is still the unit at the current stage, its
latch is set and the stage advances (R156). Another unit met by the same event may have taken an entry in between, whose
reset took the sequence back (DESIGN CHOICE, log entry 3). -/
def advanceSequence (u : Fin 8) (s : State) : State :=
  let g := s.triggers.group u
  if stageIn g.chain u = some g.stage then
    let t := putUnit u (s.triggers.units[u]).matched s
    { t with triggers := { t.triggers with groups := t.triggers.groups.set (groupOf u) { g with stage := g.stage + 1 } } }
  else s

/-- A unit that an event meets is handled (R156): it acts where it stands alone or is the final unit, its latch being set
first, and else advances its sequence.
DESIGN CHOICE (log entry 3): a final unit that the event met at its stage acts although another unit met by the same event has
taken an entry in between, and that take has reset the sequence; R156 and R158 do not say. -/
def matchUnit (tkc : Fin 8 → TkcAction → State → State) (u : Fin 8) (s : State) : State :=
  if unitActs s u then actUnit tkc u (putUnit u (s.triggers.units[u]).matched s) else advanceSequence u s

/-- The order in which units met by one event are handled (R158): free where there is more than one (log entry 3). -/
def actOrder (meeting : Nat) (us : List (Fin 8)) : List (Fin 8) :=
  match us with
  | [] => []
  | [u] => [u]
  | _ => us.insertionSort fun x y => Config.unitRank meeting x.val ≤ Config.unitRank meeting y.val

/-- The units at which an event is counted. -/
def countingUnits (s : State) (ev : TriggerEvent) : List (Fin 8) := (List.finRange 8).filter fun u => unitCounts s ev u

/-- An event is tested once against each unit, and the units it meets are handled one after another (R156, R158). -/
def testEvent (handle : Fin 8 → State → State) (ev : TriggerEvent) (s : State) : State :=
  let us := countingUnits s ev
  forEach (actOrder s.triggers.meetings us) handle (eventTested ev us.length s)

/-- The event comes before the take's reset of the units: an entry leaves air in step 1 or 3 of the take (R153). -/
def TriggerEvent.beforeReset : TriggerEvent → Bool
  | .gone _ => true
  | _ => false

/-- A unit that an event of a take in hand meets. Its request to the take controller waits for the take to be whole (R70).
Where the event comes before the take's reset, the unit's latch and the rest of its act come before it too; else the whole
of its act waits, so that the takes of other units that wait before it leave its latch to it (R157, R158). -/
def matchWithinTake (ev : TriggerEvent) (u : Fin 8) (s : State) : State :=
  match s.tkc.engine, ev.beforeReset, unitActs s u, (s.triggers.units[u]).action.tkcAction? with
  | .normal, false, true, some a => requestTkc false u a s
  | _, _, _, _ => matchUnit (requestTkc true) u s

/-- An event of the take controller is handed to the trigger units. While events are held it waits; else a take is in
hand (R158). -/
def emit (ev : TriggerEvent) (s : State) : State :=
  if s.triggers.holding then { s with triggers := { s.triggers with held := s.triggers.held ++ [ev] } }
  else testEvent (matchWithinTake ev) ev s

end Sys2Proof.Machine
end

