-- ==== Sys2Proof/Machine/TakeOps.lean ====
section
/-! DEFINITION. The operations of the take controller: the armed slot, an entry leaving air, a take, the replacement of
the target, hard posts, trigger requests, and the air alert (chapters 3 and 9). -/

namespace Sys2Proof.Machine

/-! ### The armed slot (R50 to R55) -/

/-- The armed slot's new contents. -/
def putArmed (a : Option Armed) (s : State) : State := { s with tkc := { s.tkc with armed := a } }

/-- ARMED_CHANGED for the slot as it stands, with the entry armed before (R50). With none armed its tag is absent (DESIGN
CHOICE, log entry 32). -/
def postArmed (before : Nat) (s : State) : State :=
  post (.armedChanged s.armedId (s.tkc.armed.map fun a => a.tag) before) s

/-- An entry is placed in the armed slot: any other entry there returns to READY first; one ARMED_CHANGED (R50). An
entry already there takes the new tag; a change of nothing posts nothing. -/
def armEntry (id : Nat) (tag : Tag) (s : State) : State :=
  match s.tkc.armed with
  | none => postArmed 0 (putArmed (some { id := id, tag := tag }) (setEntryState id .armed s))
  | some a =>
    if a.id = id then
      if a.tag = tag then s else postArmed id (putArmed (some { id := id, tag := tag }) s)
    else
      postArmed a.id (putArmed (some { id := id, tag := tag }) (setEntryState id .armed (setEntryState a.id .ready s)))

/-- The armed slot is emptied and its entry takes the state given: READY when disarmed, DROPPED when dropped (R53, R55,
R63, R172). -/
def disarmTo (new : EntryState) (s : State) : State :=
  match s.tkc.armed with
  | none => s
  | some a => postArmed a.id (setEntryState a.id new (putArmed none s))

/-- Auto-arm: with the slot empty, the engine NORMAL and the hold-arm latch clear, the first READY, unfloated entry after
the programme entry is armed with the tag AUTO (R51). -/
def autoArm (s : State) : State :=
  if s.tkc.armed = none ∧ s.tkc.engine = .normal ∧ s.tkc.holdArm = false then
    match s.ahead.find? fun e => e.eligible with
    | some e => armEntry e.id .auto s
    | none => s
  else s

/-- The entries standing between the programme entry and an id in the running order; none where the id stands at or
before the programme entry (R52). -/
def State.between (s : State) (id : Nat) : List Entry :=
  if s.ahead.any fun e => e.id == id then s.ahead.takeWhile fun e => e.id != id else []

/-- A changed entry stands, eligible, before an AUTO-armed entry: auto-arm is re-run as one change of the slot (R52). -/
def rerunAutoArm (changed : Nat) (s : State) : State :=
  match s.tkc.armed with
  | some a =>
    if a.tag = .auto ∧ s.tkc.engine = .normal ∧ s.tkc.holdArm = false
        ∧ (s.between a.id).any (fun e => e.id == changed && e.eligible) = true then
      match s.ahead.find? fun e => e.eligible with
      | some e => armEntry e.id .auto s
      | none => s
    else s
  | none => s

/-- The take controller handles a change handed over from the store (R51, R52): an empty slot runs auto-arm, and an
AUTO-armed one is re-run where the changed entry stands before it. -/
def orderChanged (changed : Nat) (s : State) : State :=
  match s.tkc.armed with
  | none => autoArm s
  | some _ => rerunAutoArm changed s

/-- The take controller handles a MOVE ENTRY: the programme entry's leaves the armed slot as it is, empty or not, and any
other entry's is a change of the running order like another (R51 to R53).
DEDUCED (log entry 31): R51 runs auto-arm on an empty slot after any change of the running order, and the model lets R53's
words on the one entry stand before it. -/
def orderMoved (moved : Nat) (s : State) : State := if s.pgmId = moved then s else orderChanged moved s

/-! ### Leaving air (R56) -/

/-- The frames an entry has aired: the frame in progress less its TAKE_INDEX, modulo 2^32 (R56). -/
def airedFrames (e : Entry) (now : Word) : Nat := (now - e.takeIndex.getD now).toNat

/-- An entry's slot is emptied and its target discarded (R56, step 1). -/
def vacate (id : Nat) (s : State) : State :=
  { s with tkc := { s.tkc with
      pgm := s.tkc.pgm.bind fun p => if p.id = id then none else some p,
      out := s.tkc.out.bind fun o => if o.id = id then none else some o } }

/-- An entry leaves air: it is removed from its slot and made DONE, its aired frames are recorded, its schedule slots and
marks are purged, and the trigger units are told (R56). -/
def leaveAir (id : Nat) (s : State) : State :=
  match s.entry? id with
  | none => vacate id s
  | some e =>
    let s1 := setEntryState id .done (vacate id s)
    let s2 := append .done (some id) (some e.story) none (airedFrames e s.now) s1
    emit (.gone id) (removeMarks id .b (removeMarks id .a (purgeEntry id s2)))

/-- A transition in progress is completed: its outgoing entry leaves air (R58 step 1, R60). -/
def completeTransition (s : State) : State :=
  match s.tkc.out with
  | some o => leaveAir o.id s
  | none => s

/-! ### A take (R58, R59) -/

/-- The advised duration of an entry: the last published timing set's, where the set carries one for it (R59). An entry
that is not counted has none, such as a fallback entry that is DONE, DROPPED or floated (R74, R173). -/
def State.advised? (s : State) (e : Entry) : Option Nat :=
  if e.counted then (s.timing.record? e.id).map fun r => r.advised else none

/-- The target latched at a take of an entry (R59). -/
def State.latchTarget (s : State) (e : Entry) : Nat := (s.advised? e).getD e.duration

/-- The trim latched at a take: the effective duration less the target where the target is the smaller (R59). -/
def trimOf (e : Entry) (target : Nat) : Nat := e.duration - target

/-- The take stamps of an entry (R58, step 2). -/
def Entry.stamped (e : Entry) (index : Word) (time : Nat) : Entry :=
  { e with takeIndex := some index, takeTime := some time, editedOnAir := false }

/-- Step 2 of a take: N leaves the armed slot and is ON_AIR in the programme slot with its stamps and target (R58). -/
def placeOnAir (id target : Nat) (s : State) : State :=
  let emptied := match s.tkc.armed with
    | some a => if a.id = id then none else some a
    | none => none
  setEntryState id .onAir
    (updateEntry id (fun e => e.stamped s.now s.clock.tod)
      { s with tkc := { s.tkc with armed := emptied, pgm := some { id := id, target := target } } })

/-- Step 3 of a take: the former programme entry leaves air at a cut, or moves to the outgoing slot with its target
(R58). -/
def settleFormer (former : Option OnAir) (t : Nat) (s : State) : State :=
  match former with
  | none => s
  | some p =>
    if t = 0 then leaveAir p.id s
    else { s with tkc := { s.tkc with out := some { id := p.id, target := p.target, count := t, due := false } } }

/-- Step 4 of a take: the entry is handed to the scheduler, the stations and the trigger units (R58). The starting value of the
remaining time is the one at this step (R154).
DEDUCED (log entry 24): station A takes the entry and loads its marks before station B; R58 and R130 give no order. -/
def handOn (e : Entry) (target : Nat) (s : State) : State :=
  let s1 := updateCountdowns (stationTake e .b (stationTake e .a (loadSchedule e target s.now s)))
  emit (.start s1.liveRemaining) (emit (.onAir e.id) (resetAllTriggers s1))

/-- The source tests the interlock before it takes (R57, R145): the director's TAKE alone. -/
def TakeSource.testsInterlock : TakeSource → Bool
  | .director => true
  | _ => false

/-- The entry TAKEN names as having left air at the take (R71): the outgoing entry completed in step 1, or the former
programme entry of a cut. Where both left, the spec does not say which (log entry 4). -/
def leftAir (completed cut : Nat) : Nat :=
  if completed = 0 then cut
  else if cut = 0 then completed
  else if Config.takenNamesProgramme then cut else completed

/-- Step 5 of a take: TAKE, TAKEN_UNREADY where the source did not test a closed interlock, and TAKEN (R58, R71). -/
def recordTake (src : TakeSource) (e : Entry) (trim t left : Nat) (unready : Bool) (s : State) : State :=
  let s1 := append .take (some e.id) (some e.story) none trim s
  let s2 := if unready then append .takenUnready (some e.id) none none 0 s1 else s1
  let out := match s2.tkc.out with
    | some o => o.id
    | none => 0
  post (.taken e.id e.story out left t s2.now s2.todWord src) s2

/-- Step 6 of a take: the hold-arm latch is cleared, ARMED_CHANGED is posted for the slot emptied in step 2, and auto-arm
runs (R58). -/
def finishTake (emptied : Option Nat) (s : State) : State :=
  let s1 := { s with tkc := { s.tkc with holdArm := false } }
  let s2 := match emptied with
    | some id => post (.armedChanged 0 none id) s1
    | none => s1
  autoArm s2

/-- A take of entry N with transition length t from a source: steps 1 to 6 of R58. -/
def takeEntry (src : TakeSource) (id t : Nat) (s0 : State) : State :=
  match s0.entry? id with
  | none => s0
  | some e =>
    let unready := !src.testsInterlock && s0.interlockClosed e
    let emptied := s0.tkc.armed.bind fun a => if a.id = id then some id else none
    let completed := s0.outId
    let s1 := completeTransition s0
    let former := s1.tkc.pgm
    let target := s1.latchTarget e
    let s2 := placeOnAir id target s1
    let s3 := settleFormer former t s2
    let cut := match former with
      | some p => if t = 0 then p.id else 0
      | none => 0
    let s4 := handOn e target s3
    let s5 := recordTake src e (trimOf e target) t (leftAir completed cut) unready s4
    finishTake emptied s5

/-! ### Trigger units' requests (R69, R54, R158) -/

/-- A trigger unit's TAKE: the armed entry is taken with the last transition length, or TAKE_EMPTY is recorded (R69). -/
def triggerTake (u : Fin 8) (s : State) : State :=
  match s.tkc.armed with
  | none => append .takeEmpty none none none u.val s
  | some a => takeEntry .trigger a.id s.tkc.lastLength s

/-- A trigger unit's ARM: an entry that ARM would accept is armed, and nothing changes otherwise (R54, R158). -/
def triggerArm (id : Nat) (s : State) : State :=
  match s.entry? id with
  | none => s
  | some e =>
    if e.eligible then
      let t := armEntry id .manual s
      { t with tkc := { t.tkc with holdArm := false } }
    else s

/-- Events that come up are held, or no longer held (R158). -/
def setHolding (b : Bool) (s : State) : State := { s with triggers := { s.triggers with holding := b } }

/-- Work whose events are held until it is done (R158). -/
def holdingEvents (g : State → State) (s : State) : State := setHolding false (g (setHolding true s))

/-- A trigger unit's request is carried out as its action is handed on; the events of a take it makes are held (R69,
R158). -/
def carryOut (u : Fin 8) (a : TkcAction) (s : State) : State :=
  match a with
  | .take => holdingEvents (triggerTake u) s
  | .arm id => triggerArm id s

/-- An event is tested with no take in hand: a unit's request is carried out as it acts (R156, R158). -/
def handleEvent (ev : TriggerEvent) (s : State) : State := testEvent (matchUnit carryOut) ev s

/-- The events held are tested one after another, with those that the units they meet cause (R158). None is left at the end
(`settleFuel`). -/
def settle : Nat → State → State
  | 0, s => { s with triggers := { s.triggers with held := [] } }
  | k + 1, s =>
    match s.triggers.held with
    | [] => s
    | ev :: rest => settle k (handleEvent ev { s with triggers := { s.triggers with held := rest } })

/-- More events than one event can cause: each take a unit asks for puts an entry on air that was READY or ARMED, which it
is not again while events are handled, so at most 240 takes follow; each causes at most four events. -/
def settleFuel : Nat := 1024

/-- The events held are tested. -/
def settleEvents (s : State) : State := settle settleFuel s

/-- An event reaches the trigger units with no take in hand; the events it causes are tested after it (R156, R158). -/
def meetEvent (ev : TriggerEvent) (s : State) : State := settleEvents (handleEvent ev s)

/-- The events of an operation of the take controller that is no take are tested when it is done. -/
def thenEvents (g : State → State) (s : State) : State := settleEvents (holdingEvents g s)

/-- A request that waited for a take is carried out, in the unit's act where that still comes (R70, R158). -/
def serveRequest (r : TkcRequest) (s : State) : State :=
  if r.acted then carryOut r.unit r.action s else matchUnit carryOut r.unit s

/-- The requests that waited for a take are carried out one after another (R70). The events they cause are held until each of
the units that the take met has acted, as they are for the units that one event meets (R158): a SINGLE unit is off before
those events reach it. -/
def serveTriggers (s : State) : State :=
  settleEvents (forEach s.tkc.requests serveRequest { s with tkc := { s.tkc with requests := [] } })

/-! ### The target of the programme entry (R62) -/

/-- The programme entry's target is replaced, and the scheduler, the stations and the trigger units take the new target
(R62). The event is held until the replacement is whole (`retarget`). -/
def replaceTarget (g : Nat) (s : State) : State :=
  match s.tkc.pgm with
  | none => s
  | some p =>
    let s1 := { s with tkc := { s.tkc with pgm := some { p with target := g } } }
    emit .target (updateCountdowns (recomputeEnds p.id g s1))

/-! ### Hard posts (R65 to R67) -/

/-- An entry meets the conditions of a post candidate, but for its place (R65). -/
def Entry.isPostCandidate (e : Entry) : Bool :=
  (e.state == .ready || e.state == .armed) && !e.float && e.hardPost.isSome && e.autoPost

/-- The post candidate: the first such entry after the programme entry (R65). -/
def State.postCandidate? (s : State) : Option Entry := s.ahead.find? fun e => e.isPostCandidate

/-- The entry's post is among the counts a forward set passed over at the edge (R67). -/
def missedBy (d : Nat) (edge : EdgeInfo) (e : Entry) : Bool :=
  match e.hardPost with
  | some p => edge.kind == .set && setPasses d edge.old edge.new p
  | none => false

/-- One missed post: POST_MISSED posted and appended, and AUTO_POST cleared (R67). -/
def missPost (e : Entry) (s : State) : State :=
  let p := e.hardPost.getD 0
  updateEntry e.id (fun x => { x with autoPost := false })
    (append .postMissed (some e.id) (some e.story) none p (post (.postMissed e.id e.story (labelWord s.clock.mode p)) s))

/-- The misses of an edge, in running order (R67). -/
def missPosts (s : State) : State :=
  forEach (s.ahead.filter fun e => e.isPostCandidate && missedBy s.clock.mode.day s.edge e) missPost s

/-- The candidate is reached at the edge: the time of day equals its post, and the edge counted or set (R65). -/
def reachedAt (edge : EdgeInfo) (e : Entry) : Bool := e.hardPost == some edge.new && edge.kind != .held

/-- An entry before a reached post is dropped: an ARMED one leaves the slot first (R66, step 1). -/
def skipForPost (e : Entry) (s : State) : State :=
  let s1 := if s.armedId = e.id then postArmed e.id (putArmed none s) else s
  append .postSkip (some e.id) (some e.story) none 0 (setEntryState e.id .dropped s1)

/-- The entries a reached post drops (R66, step 1). -/
def State.skippedBy (s : State) (q : Entry) : List Entry :=
  (s.between q.id).filter fun e => e.state == .ready || e.state == .armed

/-- A reached post acts: the entries before it are dropped, it is armed and taken, and POST_REACHED is posted and
recorded (R66). -/
def reachPost (q : Entry) (s : State) : State :=
  let gone := s.skippedBy q
  let s1 := forEach gone skipForPost s
  let s2 := takeEntry .post q.id s1.tkc.lastLength (armEntry q.id .manual s1)
  append .postReached (some q.id) (some q.story) none gone.length
    (post (.postReached q.id q.story (labelWord s.clock.mode (q.hardPost.getD 0)) gone.length) s2)

/-- The cause code of a SUPPRESSED record of a post (R179). -/
def postCause : Nat := 256

/-- The take controller's post logic at an edge: the misses, then the candidate (R65, R67). -/
def handlePosts (s : State) : State :=
  let s1 := missPosts s
  match s1.postCandidate? with
  | none => s1
  | some q =>
    if reachedAt s1.edge q then
      match s1.tkc.engine with
      | .normal => reachPost q s1
      | .safe => append .suppressed (some q.id) (some q.story) none postCause s1
    else s1

/-! ### The air alert (R172 to R174) -/

/-- The fallback take: a cut to the fallback entry from whatever state it is in; where it is the programme entry no take
is made, and a transition in progress is completed (R173). -/
def fallbackTake (f : Nat) (s : State) : State :=
  if s.pgmId = f then completeTransition s else takeEntry .alert f 0 s

/-- The fallback entry an alert takes, or none where no take is made (R172, R173). -/
def State.fallbackTaken? (s : State) : Option Nat := s.tkc.fallback.bind fun f => if s.pgmId = f then none else some f

/-- Both stations take a DARK override with the source ALERT (R172, step 5). -/
def darkenLamps (s : State) : State :=
  let o : Option Override := some { state := .dark, source := .alert }
  setOverride .b o (setOverride .a o s)

/-- The number of CANCELLED records appended since the ring's next number stood at `since` (R172, step 7). -/
def cancelledSince (since : Word) (s : State) : Nat :=
  let n := (s.asRun.next - since).toNat
  ((s.asRun.ring.drop (s.asRun.ring.length - n)).filter fun r => r.kind == .cancelled).length

/-- Step 2 of an air alert: an armed entry other than the fallback returns to READY (R172). -/
def alertDisarm (s : State) : State :=
  match s.tkc.armed with
  | some a => if s.tkc.fallback = some a.id then s else disarmTo .ready s
  | none => s

/-- An air alert taken in NORMAL: steps 1 to 7 of R172. -/
def airAlert (s : State) : State :=
  let since := s.asRun.next
  let taken := s.fallbackTaken?
  let s1 := { s with tkc := { s.tkc with engine := .safe } }
  let s2 := alertDisarm s1
  let s3 := match s.tkc.fallback with
    | some f => fallbackTake f s2
    | none => s2
  let s4 := darkenLamps (alertCancel s.tkc.fallback s3)
  let s5 := post (.alert s4.now s4.todWord (taken.getD 0) s.pgmId s.outId false) s4
  let story := taken.bind fun f => (s5.entry? f).map fun e => e.story
  append .panic taken story none (cancelledSince since s5) s5

/-- A repeated alert in SAFE (R174). -/
def repeatAlert (s : State) : State :=
  append .panic none none none 0 (post (.alert s.now s.todWord 0 s.pgmId s.outId true) s)

end Sys2Proof.Machine
end

