-- ==== Sys2Proof/Machine/ChannelCommands.lean ====
section
/-! DEFINITION. The commands of the fire scheduler and the fire channels: READ SCHEDULE, SET CHANNEL, FIRE NOW, STOP
CHANNEL, CLIP END and READ CHANNEL (R68, R104, R105, R118 to R121). -/

namespace Sys2Proof.Machine

/-! ### READ SCHEDULE (R104) -/

/-- The number of occupied slots (R104). -/
def Scheduler.occupied (f : Scheduler) : Nat := ((List.finRange 32).filter fun i => (f.slots[i]).isSome).length

/-- The reply to READ SCHEDULE: the status byte is 0 for an occupied slot and 1 for FREE; the state byte is 0 for WAITING
and 1 for RELEASED (log entries 6 and 12). -/
def readScheduleReply (x : Option Slot) (s : State) : List Word :=
  let word (g : Slot → Word) : Word := opt32 (x.map g)
  let byte (g : Slot → Byte) : Byte := opt8 (x.map g)
  pack [word fun y => y.story, word fun y => y.due, word fun y => y.release] [opt16 (x.map fun y => y.argument)]
    [ w8 s.sched.occupied, if x.isSome then 0 else 1, byte fun y => w8 y.entry, byte fun y => w8 y.cueIndex,
      byte fun y => w8 y.channel.val, byte fun y => w8 y.action.code, byte fun y => w8 y.anchor.code,
      byte fun y => w8 y.preRoll, byte fun y => wBool y.released ]

/-- READ SCHEDULE (R104). The slot number stands in the selector (DEDUCED, log entry 12: R190 does not place it). -/
def readSchedule (k : Command) (s : State) : Answer := do
  let i ← orElse .badArgument (index? 32 k.selector)
  return (s, readScheduleReply s.sched.slots[i] s)

/-- READ SCHEDULE (R104). -/
def execReadSchedule (n : Fin 4) (f : Word) (s : State) : Host.Outcome State Fault Refusal :=
  onCommand 0x40 n f readSchedule s

/-! ### SET CHANNEL (R105) -/

/-- The five settings of a configuration, as the replies carry them (R105, R121). -/
def ChannelConfig.bytes (g : ChannelConfig) : List Byte :=
  [w8 g.mode.code, w8 g.width, w8 g.preRoll, w8 g.holdLimit, w8 g.ready.code]

/-- A setting with named values: all ones leaves it, a code outside its values is refused with BAD_ARGUMENT (R105,
R128). -/
def namedSetting {α : Type} (old : α) (b : Byte) (g : Nat → Option α) : Except Reason α :=
  if absent8 b then .ok old else orElse .badArgument (g b.toNat)

/-- SET CHANNEL: the mode in bits 16-23 of the command frame, and the width, pre-roll, hold limit and ready source in the
data frame (log entry 12). -/
def setChannel (k : Command) (s : State) : Answer := do
  let c ← needChannel k.selector
  let ch := s.channel c
  let old := ch.config
  let mode ← namedSetting old.mode k.opLow chanModeOfCode?
  let ready ← namedSetting old.ready (byteOf (k.word 0) 3) readySourceOfCode?
  let new : ChannelConfig :=
    { mode := mode, width := keepOr8 old.width (byteOf (k.word 0) 0) (clampBetween 1 15),
      preRoll := keepOr8 old.preRoll (byteOf (k.word 0) 1) (clampTo 250),
      holdLimit := keepOr8 old.holdLimit (byteOf (k.word 0) 2) (clampTo 250), ready := ready }
  return (putChannel c { ch with config := new } s, pack [] [] new.bytes)

/-- SET CHANNEL (R105). -/
def execSetChannel (n : Fin 4) (f : Word) (s : State) : Host.Outcome State Fault Refusal :=
  onCommand 0x41 n f setChannel s

/-! ### FIRE NOW and STOP CHANNEL (R118, R119) -/

/-- The immediate request a FIRE NOW makes (R118). -/
def manualRequest (action : ChanAction) (argument : Half) : Request :=
  { origin := .manual, action := action, argument := argument, entry := none, story := none, cueIndex := none, due := none }

/-- FIRE NOW: the argument in the operand and the action in bits 0-7 of the data frame (log entry 12). The reply carries
the outcome, ENTERED 0 or WAITING 1, and the flag of a superseded request. -/
def fireNow (k : Command) (s : State) : Answer := do
  let c ← needChannel k.selector
  let action ← orElse .badArgument (chanActionOfCode? (byteNat (k.word 0) 0))
  let ch := s.channel c
  return (deliver c (manualRequest action k.operand) s,
    pack [] [] [wBool (!ch.admitsAtOnce), wBool (!ch.admitsAtOnce && ch.waiting.isSome)])

/-- FIRE NOW (R118). -/
def execFireNow (n : Fin 4) (f : Word) (s : State) : Host.Outcome State Fault Refusal := onCommand 0x42 n f fireNow s

/-- STOP CHANNEL (R119). -/
def stopChannel (k : Command) (s : State) : Answer := do
  let c ← needChannel k.selector
  let ch := s.channel c
  return (stopChannelWork c s, pack [] [] [w8 ch.state.code, w8 ch.cancellable])

/-- STOP CHANNEL (R119). -/
def execStopChannel (n : Fin 4) (f : Word) (s : State) : Host.Outcome State Fault Refusal :=
  onCommand 0x43 n f stopChannel s

/-! ### CLIP END (R68, R120) -/

/-- A clip end of channel c applies to the programme entry (R68). -/
def clipEndApplies (c : Fin 16) (e : Entry) : Bool := e.kind == .clip && e.autoAdvance && e.clipChannel == some c

/-- The cause code of a SUPPRESSED record of a clip end (R179). -/
def clipEndCause : Nat := 257

/-- A clip end that applies, in NORMAL: the armed entry is taken, or NO_NEXT is posted (R68). -/
def clipEndAdvance (c : Fin 16) (e : Entry) (s : State) : State :=
  match s.tkc.armed with
  | some a => takeEntry .clipEnd a.id s.tkc.lastLength s
  | none => post (.noNext e.id e.story c) s

/-- The take controller's part of a clip end (R68). -/
def clipEndTaken (c : Fin 16) (s : State) : State :=
  match s.pgmEntry? with
  | none => s
  | some e =>
    if clipEndApplies c e then
      match s.tkc.engine with
      | .normal => clipEndAdvance c e s
      | .safe => append .suppressed (some e.id) none (some c) clipEndCause s
    else s

/-- A clip end makes a take: it applies in NORMAL with the armed slot holding an entry (R68). -/
def clipEndTakes (c : Fin 16) (s : State) : Bool :=
  match s.pgmEntry? with
  | none => false
  | some e => clipEndApplies c e && s.tkc.engine == .normal && s.tkc.armed.isSome

/-- CLIP END (R120). -/
def clipEnd (k : Command) (s : State) : Answer := do
  let c ← needChannel k.selector
  let ch := s.channel c
  let t := serveTriggers (clipEndTaken c (clipEndWork c s))
  return (t, pack [] [] [w8 ch.state.code, wBool (ch.state == .playing), wBool (clipEndTakes c s)])

/-- CLIP END (R120). -/
def execClipEnd (n : Fin 4) (f : Word) (s : State) : Host.Outcome State Fault Refusal := onCommand 0x44 n f clipEnd s

/-! ### READ CHANNEL (R121) -/

/-- The bytes of a request in a READ CHANNEL reply: origin, entry id, cue index and action, absent where there is none. -/
def requestBytes (r : Option Request) : List Byte :=
  [ opt8 (r.map fun x => w8 x.origin.code), opt8 (r.bind fun x => x.entry.map w8), opt8 (r.bind fun x => x.cueIndex.map w8),
    opt8 (r.map fun x => w8 x.action.code) ]

/-- The reply to READ CHANNEL (R121). -/
def readChannelReply (ch : Channel) : List Word :=
  let fl := ch.inFlight
  let r := fl.map fun x => x.req
  pack [opt32 (fl.map fun x => x.due), opt32 (fl.map fun x => x.firstCheck)]
    [opt16 (r.map fun x => x.argument), opt16 (ch.waiting.map fun x => x.argument)]
    ([w8 ch.state.code] ++ ch.config.bytes ++ [wBool ch.state.fireLevel, wBool ch.cue, wBool ch.rdy] ++ requestBytes r
      ++ [opt8 (fl.map fun x => w8 x.held)] ++ requestBytes ch.waiting ++ [wBool ch.faultLatch])

/-- READ CHANNEL clears the fault latch; the reply shows it as it stood (R121). -/
def readChannel (k : Command) (s : State) : Answer := do
  let c ← needChannel k.selector
  let ch := s.channel c
  return (putChannel c { ch with faultLatch := false } s, readChannelReply ch)

/-- READ CHANNEL (R121). -/
def execReadChannel (n : Fin 4) (f : Word) (s : State) : Host.Outcome State Fault Refusal :=
  onCommand 0x45 n f readChannel s

end Sys2Proof.Machine
end

