-- ==== Sys2Proof/Machine/EdgeOps.lean ====
section
/-! DEFINITION. A frame edge: the clock's advance, what each block does with the edge, and the work that is still owed
(R2 to R7, R18, R60, R65, R87, R99, R108 to R114, R143, R152, R154). -/

namespace Sys2Proof.Machine

/-! ### The clock at an edge (R5, R7, R10) -/

/-- The time of day of the new frame, and how it came about (R7). -/
def Clock.nextTod (k : Clock) : Nat × EdgeKind :=
  match k.setPending, k.run with
  | some v, _ => (v, .set)
  | none, .running => ((k.tod + 1) % k.mode.day, .counted)
  | none, .stopped => (k.tod, .held)

/-- The clock after an edge: the frame index counts, the time of day and the run state are those of the new frame, both
pending items are cleared, and the edge restarts the timebase at the period of the mode in force (R2, R5, R7, R13). -/
def Clock.advance (k : Clock) : Clock :=
  { k with
    frame := k.frame + 1, tod := k.nextTod.1, run := k.runPending.getD k.run, setPending := none, runPending := none,
    period := k.mode, sinceEdge := 0, sinceRestart := 0 }

/-- The clock takes an edge and hands over its values (R6). -/
def advanceClock (s : State) : State :=
  { s with clock := s.clock.advance, edge := { old := s.clock.tod, new := s.clock.nextTod.1, kind := s.clock.nextTod.2 } }

/-- The reference state changes, with its REF_STATE notice for the frame in progress (R3, R4). -/
def setReference (r : RefState) (s : State) : State :=
  post (.refState r s.now) { s with clock := { s.clock with ref := r } }

/-! ### The work of the blocks at an edge -/

/-- CLOCK_TICK when the hh:mm:ss parts of the two labels differ (R18). -/
def clockTick (s : State) : State :=
  let old := labelOf s.clock.mode s.edge.old
  let new := labelOf s.clock.mode s.edge.new
  if secondsDiffer old new then post (.clockTick s.edge.new new.toWord s.now (minutesDiffer old new)) s else s

/-- The outgoing slot at a frame edge in a transition: the count goes down by one. At 1 the transition's completion is due,
and the decrease to 0 is the completion's, which empties the slot (R48, R60).
DEDUCED (log entry 41): the step of TRANSITION_COMPLETE is where the count reaches 0 in 95_what_each_step_holds.md. -/
def Outgoing.newFrame (o : Outgoing) : Outgoing :=
  if o.count ≤ 1 then { o with due := true } else { o with count := o.count - 1 }

/-- The transition count goes from 1 to 0 at the edge of the frame in progress, with the completion yet to be done (R60). -/
def State.transitionDue (s : State) : Bool := s.tkc.out.any fun o => o.due

/-- The completion of a transition as an event of the take controller: the count reaches 0, and the outgoing entry leaves air
with the slot emptied (R60). -/
def finishTransition (s : State) : State := if s.transitionDue then thenEvents completeTransition s else s

/-- Work that a take made now is made while a frame edge is handled (R99). -/
def atEdge (g : State → State) (s : State) : State :=
  let t := g { s with sched := { s.sched with atEdge := true } }
  { t with sched := { t.sched with atEdge := false } }

/-- The piece of work is no longer owed. -/
def settleItem (i : EdgeItem) (s : State) : State := { s with owed := s.owed.erase i }

/-- One piece of work of an edge, where it is owed or due. -/
def performItem (i : EdgeItem) (s : State) : State :=
  match i with
  | .tick => if s.owed.contains .tick then clockTick (settleItem .tick s) else s
  | .view => if s.owed.contains .view then beginPass (settleItem .view s) else s
  | .transition => atEdge finishTransition s
  | .posts => if s.owed.contains .posts then atEdge (fun t => serveTriggers (handlePosts t)) (settleItem .posts s) else s
  | .triggers => if s.owed.contains .triggers then atEdge (meetEvent .edge) (settleItem .triggers s) else s
  | .station st => if s.owed.contains (.station st) then updateCountdown st (settleItem (.station st) s) else s
  | .channel c => channelEdge c s
  | .release c => releaseNext c false s

/-- The pieces of work done in the order listed. -/
def performItems (is : List EdgeItem) (s : State) : State := forEach is performItem s

/-- The work that every edge's own step holds, in the order in which what the edge's operand does not list is done (log entry
9): CLOCK_TICK, the posts, the timing pass's view, the trigger units' tests and the countdowns. -/
def owedItems : List EdgeItem := [.tick, .posts, .view, .triggers, .station .a, .station .b]

/-- The channels' own edge work. -/
def channelItems : List EdgeItem := (List.finRange 16).map EdgeItem.channel

/-- What falls due at a channel at the edge is a row of its own: a first check, the hold limit, a pulse's end. -/
def State.rowDue (s : State) (c : Fin 16) : Bool :=
  ((s.channel c).checkDue s.now).isSome || (s.channel c).limitDue.isSome || (s.channel c).pulseDue.isSome

/-- A channel's edge work that the edge's own step holds: CUE falls (R109), a request in HOLD is sampled and fires where it
is ready (R112), FAULT is left (R114), and a request that waits in IDLE or PLAYING enters (R108). Where a first check, the
hold limit or a pulse's end falls due, CUE falls and the rest is that row's. -/
def channelWithin (c : Fin 16) (s : State) : State := if s.rowDue c then dropCue c s else channelEdge c s

/-- The blocks' work of an edge, all within the edge's step: the pieces the operand lists, in its order, then what it does
not list, in an order the model fixes (log entry 9). The transition's completion, the releases, the first checks, the hold
limits and the pulses' ends that are due and not listed are rows of their own. -/
def edgeWork (order : List EdgeItem) (s : State) : State :=
  forEach (List.finRange 16) channelWithin (performItems owedItems (performItems order s))

/-- What falls due at an edge and has been left to rows of its own is done, in an order the model fixes; it is only reached
for what no row has taken before the next edge (log entry 9). The channels are visited again after the releases, since a
request that enters at an edge may be checked, and one that fires or faults may end, at that edge (R110). -/
def finishEdge (s : State) : State :=
  performItems channelItems (forEach (List.finRange 16) releaseAll (performItems (.transition :: channelItems) s))

/-- The blocks at the beginning of a new frame: RDY is sampled, running pulses and the transition count one frame down,
WAITING slots whose release index is reached are to be released, and the work of the edge is owed (R60, R99, R111). -/
def openEdge (rdy : BitVec 16) (s : State) : State :=
  let channels := mapTable (fun c ch => ch.newFrame (rdy.getLsb c)) s.channels
  let slots := mapTable (fun _ o => o.map fun x => x.newFrame s.clock.frame) s.sched.slots
  let out := s.tkc.out.map Outgoing.newFrame
  { s with
    channels := channels, sched := { s.sched with slots := slots }, tkc := { s.tkc with out := out }, owed := owedItems }

/-- A frame edge (R5 to R7). What fell due at the edge before it and no row has taken is finished first, its timing pass
included (R88). The clock advances, and the reference state takes its new value. While RST is asserted no other block works
(R1); else the edge opens for the blocks, which do their work of it.
DESIGN CHOICE (log entry 27): a REF_STATE of the edge is posted before CLOCK_TICK and the other notices of the edge; R3 and
R18 give no order. -/
def frameEdge (ref : Option RefState) (e : EdgeInput) (s : State) : State :=
  let s1 := if s.rst then s else publish (finishEdge s)
  let s2 := advanceClock s1
  let s3 := match ref with
    | some r => setReference r s2
    | none => s2
  if s3.rst then s3 else edgeWork e.order (openEdge e.rdy s3)

/-! ### The reference (R2 to R4) -/

/-- The pulse arrives less than half a frame period after the latest edge (R4). -/
def Clock.early (k : Clock) (dt : Nat) : Bool := decide (2 * (k.sinceEdge + dt) < k.period.framePeriod)

/-- The time of a pulse that produces no edge: it restarts the timebase where it is absorbed (R2, R4). -/
def passTime (dt : Nat) (restart : Bool) (s : State) : State :=
  { s with clock := { s.clock with
      sinceEdge := s.clock.sinceEdge + dt, sinceRestart := if restart then 0 else s.clock.sinceRestart + dt } }

/-- A REFIN pulse (R4), `dt` ticks after the latest of the latest edge and the latest pulse that gave none. -/
def refinPulse (dt : Nat) (e : EdgeInput) (s : State) : State :=
  match s.clock.ref, s.clock.early dt with
  | .present, true => passTime dt false s
  | .present, false => frameEdge none e s
  | .lost, true => setReference .present (passTime dt true s)
  | .lost, false => frameEdge (some .present) e s

end Sys2Proof.Machine
end

