-- ==== Sys2Proof/Machine/ClockCommands.lean ====
section
/-! DEFINITION. The clock's commands: READ CLOCK, SET TIME, RUN CLOCK, STOP CLOCK and SET RATE (R8, R9, R11, R13). -/

namespace Sys2Proof.Machine

/-- The three pending flags: SET_PENDING, RUN_PENDING and STOP_PENDING in bits 0, 1 and 2 (R11). -/
def Clock.pendingFlags (k : Clock) : Byte :=
  wBool k.setPending.isSome ||| (wBool (k.runPending == some .running) <<< 1) ||| (wBool (k.runPending == some .stopped) <<< 2)

/-- The reply to READ CLOCK (R11). -/
def readClockReply (s : State) : List Word :=
  let k := s.clock
  pack [k.frame, w32 k.tod, s.todWord, w32 k.mode.day, opt32 (k.setPending.map fun v => labelWord k.mode v)] []
    [w8 k.mode.code, w8 k.run.code, k.pendingFlags, w8 k.ref.code]

/-- READ CLOCK (R11). -/
def execReadClock (n : Fin 4) (f : Word) (s : State) : Host.Outcome State Fault Refusal :=
  onCommand 0x01 n f (fun _ t => .ok (t, readClockReply t)) s

/-- SET TIME: the label is checked and promoted, and becomes the pending set value (R9). -/
def setTime (k : Command) (s : State) : Answer := do
  let l ← orElse .badTime (checkLabel s.clock.mode (k.word 0))
  return ({ s with clock := { s.clock with setPending := some (countOf s.clock.mode l) } }, [l.toWord])

/-- SET TIME (R9). -/
def execSetTime (n : Fin 4) (f : Word) (s : State) : Host.Outcome State Fault Refusal := onCommand 0x02 n f setTime s

/-- A pending run change (R8). -/
def pendRun (r : RunState) (s : State) : State := { s with clock := { s.clock with runPending := some r } }

/-- RUN CLOCK (R8). -/
def execRunClock (n : Fin 4) (f : Word) (s : State) : Host.Outcome State Fault Refusal :=
  onCommand 0x03 n f (fun _ t => .ok (pendRun .running t, [])) s

/-- STOP CLOCK (R8). -/
def execStopClock (n : Fin 4) (f : Word) (s : State) : Host.Outcome State Fault Refusal :=
  onCommand 0x04 n f (fun _ t => .ok (pendRun .stopped t, [])) s

/-! ### SET RATE (R13) -/

/-- The clock in a new mode: the time of day and a pending set value are converted (R13). The timebase takes the new
period at the next edge. -/
def Clock.convert (new : Mode) (k : Clock) : Clock :=
  { k with mode := new, tod := convertCount k.mode new k.tod, setPending := k.setPending.map (convertCount k.mode new) }

/-- An entry's HARD_POST and TAKE_TIME in a new mode (R13). -/
def Entry.convert (old new : Mode) (e : Entry) : Entry :=
  { e with hardPost := e.hardPost.map (convertCount old new), takeTime := e.takeTime.map (convertCount old new) }

/-- The time-of-day stamp of a ready record in a new mode (R13). -/
def Station.convert (old new : Mode) (x : Station) : Station := { x with pressTime := x.pressTime.map (convertCount old new) }

/-- A TIME condition's label in a new mode (R13, R152). -/
def Condition.convert (old new : Mode) : Condition → Condition
  | .time label mask => .time (convertLabel old new label) mask
  | c => c

/-- A trigger unit in a new mode: a TIME condition's memory is worked again against the converted time of day (R152). -/
def TriggerUnit.convert (old new : Mode) (tod : Nat) (x : TriggerUnit) : TriggerUnit :=
  let c := x.condition.convert old new
  { x with condition := c, timeMemory := timeComparison new tod c }

/-- Everything that is kept as a time of day is converted to a new mode at once, and the countdowns are worked again (R13,
R143, R152). -/
def convertRate (new : Mode) (s : State) : State :=
  let old := s.clock.mode
  let clock := s.clock.convert new
  updateCountdowns
    { s with
      clock := clock,
      store := { s.store with order := s.store.order.map (Entry.convert old new) },
      stations := mapTable (fun _ x => x.convert old new) s.stations,
      triggers := { s.triggers with units := mapTable (fun _ x => x.convert old new clock.tod) s.triggers.units } }

/-- SET RATE is accepted only when the clock is STOPPED and no RUN is pending (R13). -/
def Clock.mayChangeRate (k : Clock) : Bool := k.run == .stopped && k.runPending != some .running

/-- SET RATE (R13). The mode in force changes no value.
DESIGN CHOICE (log entry 30): a mode code that names no mode is refused with BAD_ARGUMENT, before the STATE check; R13 gives
no reason for it. -/
def setRate (k : Command) (s : State) : Answer := do
  let new ← orElse .badArgument (modeOfCode? k.selector)
  require s.clock.mayChangeRate .state
  let t := if new = s.clock.mode then s else convertRate new s
  return (t, [t.todWord])

/-- SET RATE (R13). -/
def execSetRate (n : Fin 4) (f : Word) (s : State) : Host.Outcome State Fault Refusal := onCommand 0x05 n f setRate s

end Sys2Proof.Machine
end

