-- ==== Sys2Proof/Machine/Events.lean ====
section
/-! DEFINITION. The events of the lines and of the passage of time: power-on, RST, frame edges and what falls due at them,
PANIC, the general inputs, the encoders and the ready buttons. -/

namespace Sys2Proof.Machine

/-- Every event of this file leads to a next state. -/
abbrev Result := Host.Outcome State Fault Refusal

/-! ### Resets (R1, R2, R12, R47, R73, R95, R124, R147, R162, R169, R177, R182, R202) -/

/-- The clock at the assertion of RST: what is pending is discarded, all else goes on (R2, R5, R8, R9, R12). -/
def Clock.discardPending (k : Clock) : Clock := { k with setPending := none, runPending := none }

/-- A channel at the assertion of RST (R124).
DESIGN CHOICE (log entry 46): the RDY level that READ CHANNEL shows stays the one sampled before RST, until the first edge
after the release samples it; R124 gives it no value, and R121's latest edge may be one under RST, at which R1 has the channels
do no work. -/
def Channel.afterReset (ch : Channel) : Channel := { channelReset with rdy := ch.rdy }

/-- A station at the assertion of RST: its lines keep their levels until they are sampled at the release (R1, R147). -/
def Station.afterReset (x : Station) : Station := stationReset x.pa x.pb x.readyLine

/-- The assertion of RST (R1): each block takes the values of its chapter. The as-run record is kept (R182).
DESIGN CHOICE (log entry 28): a transition's completion, a release, a first check, a hold limit or a pulse's end that the
latest edge made due and that no row has taken yet is dropped with the rest, with no as-run record; R1 does not say. -/
def assertReset (s : State) : State :=
  { s with
    rst := true, clock := s.clock.discardPending, store := storeReset, tkc := tkcReset, timing := timingReset s.clock.mode,
    sched := schedulerReset, channels := mapTable (fun _ ch => ch.afterReset) s.channels,
    stations := mapTable (fun _ x => x.afterReset) s.stations, triggers := triggersReset, tally := tallyReset s.tally.gpi,
    links := mapTable (fun _ l => linkReset l.role) s.links, owed := [] }

/-- The release of RST (R1): the straps and lines are sampled and SYSTEM_RESET is appended (R182). -/
def releaseReset (l : Lines) (s : State) : State :=
  append .systemReset none none none 0
    { s with rst := false, stations := stationsReset l, tally := tallyReset l.gpi, links := linksReset l }

/-- POWER_ON: every block at its power-on values, with the lines sampled at the end of power-on. -/
def execPowerOn (l : Lines) (s : State) : Result := .next { stateAfterPowerOn l with pending := s.pending }

/-- RST_ASSERT. An assertion of a line that is asserted is no event (log entry 13). -/
def execRstAssert (s : State) : Result := .next (if s.rst then s else assertReset s)

/-- RST_RELEASE. A release of a line that is not asserted is no event (log entry 13). -/
def execRstRelease (l : Lines) (s : State) : Result := .next (if s.rst then releaseReset l s else s)

/-! ### Frame edges (R2 to R7) -/

/-- REFIN_PULSE: disregarded, absorbed, or a frame edge (R4). -/
def execRefinPulse (dt : Nat) (e : EdgeInput) (s : State) : Result := .next (refinPulse dt e s)

/-- REF_LOSS: the timebase expires while the reference is PRESENT; with the reference LOST it does not expire so (R3, log
entry 13). -/
def execRefLoss (e : EdgeInput) (s : State) : Result :=
  .next (if s.clock.ref = .present then frameEdge (some .lost) e s else s)

/-- TIMEBASE_EDGE: the internal timebase gives an edge while the reference is LOST (R2, log entry 13). -/
def execTimebaseEdge (e : EdgeInput) (s : State) : Result :=
  .next (if s.clock.ref = .lost then frameEdge none e s else s)

/-! ### What falls due (R60, R88, R99, R111 to R113) -/

/-- TIMING_PUBLISH: the pass in flight completes and publishes its set (R88). -/
def execTimingPublish (s : State) : Result := .next (if s.rst then s else publish s)

/-- TRANSITION_COMPLETE: the transition count reaches 0 and the outgoing entry leaves air, at the edge where that is due
(R60). -/
def execTransitionComplete (s : State) : Result :=
  .next (if s.rst then s else atEdge finishTransition s)

/-- SCHEDULE_RELEASE: the next slot to be released to the channel at the present edge (R99). -/
def execScheduleRelease (c : Fin 16) (s : State) : Result := .next (if s.rst then s else releaseNext c false s)

/-- A channel's own edge work, where the named piece of it is due (R111 to R113). -/
def channelWork (due : Channel → Option InFlight) (c : Fin 16) (s : State) : State :=
  match due (s.channel c) with
  | some _ => channelEdge c s
  | none => s

/-- FIRST_CHECK: the request in flight reaches its first check (R111). -/
def execFirstCheck (c : Fin 16) (s : State) : Result :=
  .next (if s.rst then s else channelWork (fun ch => ch.checkDue s.now) c s)

/-- HOLD_LIMIT_REACHED: the frames held reach the hold limit with ready false (R112). -/
def execHoldLimitReached (c : Fin 16) (s : State) : Result := .next (if s.rst then s else channelWork Channel.limitDue c s)

/-- PULSE_END: the pulse width has run out (R113). -/
def execPulseEnd (c : Fin 16) (s : State) : Result := .next (if s.rst then s else channelWork Channel.pulseDue c s)

/-! ### Lines (R126, R127, R144, R155, R165, R171) -/

/-- PANIC_FALL: an air alert in NORMAL, a repeated alert in SAFE (R171). -/
def execPanicFall (s : State) : Result :=
  .next (if s.rst then s else
    match s.tkc.engine with
    | .normal => airAlert s
    | .safe => repeatAlert s)

/-- The level of a general input after an edge (R165). -/
def setGpi (i : Fin 8) (rising : Bool) (g : Byte) : Byte :=
  if rising then g ||| ((1 : Byte) <<< i.val) else g &&& ~~~((1 : Byte) <<< i.val)

/-- GPI_EDGE: the matrix and the trigger units take the edge (R155, R165). -/
def execGpiEdge (i : Fin 8) (rising : Bool) (s : State) : Result :=
  .next (if s.rst then s else
    meetEvent (.gpi i rising) { s with tally := { s.tally with gpi := setGpi i rising s.tally.gpi } })

/-- A counted edge moves the counter, acts on the mark list where it is a forward move, and is handed to the trigger
units (R127). -/
def countedMove (st : StationId) (up : Bool) (s : State) : State :=
  let x := s.station st
  let p := x.position
  let q := countedPosition p x.step up
  let dir : Direction := if up then .up else .down
  let s1 := putStation st { x with position := q, direction := dir } s
  let s2 := if p < q then crossByCount st p q s1 else s1
  meetEvent (.move st dir p q) s2

/-- ENCODER_EDGE: the edge is classified against the other line's level, and counts where its condition is enabled (R126,
R127). -/
def execEncoderEdge (st : StationId) (line : EncoderLine) (rising : Bool) (s : State) : Result :=
  .next (if s.rst then s else
    let x := s.station st
    let k := conditionOf line rising (x.otherLevel line)
    let s1 := putStation st (x.takeLine line rising) s
    if x.enables.getLsb k then countedMove st (conditionIsUp k) s1 else s1)

/-- A press stamps the ready record and sets READY (R144). -/
def Station.pressed (x : Station) (index : Word) (time : Nat) : Station :=
  { x with ready := true, pressIndex := some index, pressTime := some time, readyLine := false }

/-- READY_PRESS: a falling edge of the station's READY line (R144). -/
def execReadyPress (st : StationId) (s : State) : Result :=
  .next (if s.rst then s else
    post (.stationReady st s.now s.todWord (if namesStation s.armedEntry? st then s.armedId else 0))
      (putStation st ((s.station st).pressed s.now s.clock.tod) s))

end Sys2Proof.Machine
end

