-- ==== Sys2Proof/Machine/LinkCommands.lean ====
section
/-! DEFINITION. READ AS-RUN, the notice commands, READ LINK and CLEAR LINK FLAGS, and the link's own rows: NOP, a frame
that names no command, a data frame, a held frame and a resynchronisation (R181, R184 to R188, R196 to R202). -/

namespace Sys2Proof.Machine

/-! ### READ AS-RUN (R181, R196) -/

/-- The oldest sequence number present: the next less the number present (R180). -/
def AsRun.oldest (a : AsRun) : Word := a.next - w32 a.ring.length

/-- What a READ AS-RUN finds (R181). -/
inductive AsRunRead where
  | found (r : AsRunRecord)
  | atEnd
  | gap (r : AsRunRecord) (lost : Word)
  deriving DecidableEq, Repr

/-- The record at an offset from the oldest, as the finding given; none can be missing below the number present. -/
def AsRun.recordAt (a : AsRun) (i : Nat) (g : AsRunRecord → AsRunRead) : AsRunRead :=
  match a.ring[i]? with
  | some r => g r
  | none => .atEnd

/-- The reply depends on where s falls (R181). -/
def AsRun.read (a : AsRun) (s : Word) : AsRunRead :=
  let o := a.oldest
  if a.ring.length = 0 then .atEnd
  else if (s - o).toNat < a.ring.length then a.recordAt (s - o).toNat .found
  else if (s - a.next).toNat < 2 ^ 31 then .atEnd
  else a.recordAt 0 fun r => .gap r (o - s)

/-- The record a finding returns, absent with END. -/
def AsRunRead.record? : AsRunRead → Option AsRunRecord
  | .found r => some r
  | .atEnd => none
  | .gap r _ => some r

/-- The status code: RECORD 0, END 1, GAP 2 (R196). -/
def AsRunRead.status : AsRunRead → Byte
  | .found _ => 0
  | .atEnd => 1
  | .gap _ _ => 2

/-- The number lost, absent except with GAP (R196). -/
def AsRunRead.lost? : AsRunRead → Option Word
  | .gap _ n => some n
  | _ => none

/-- The reply to READ AS-RUN, frame by frame (R196). -/
def readAsRunReply (a : AsRun) (s : Word) : List Word :=
  let found := a.read s
  let r := found.record?
  [ opt32 (r.map fun x => x.sequence), opt32 (r.map fun x => x.frame), opt32 (r.map fun x => w32 x.tod),
    opt32 (r.map fun x => w32 x.value), opt32 (r.bind fun x => x.story), a.oldest, a.next, opt32 found.lost?,
    opt8 (r.map fun x => w8 x.kind.code) ++ found.status ++ w16 a.ring.length,
    frameOfBytes (opt8 (r.bind fun x => x.entry.map w8)) (opt8 (r.bind fun x => x.channel.map fun c => w8 c.val))
      (opt8 (r.map fun x => w8 x.mode.code)) 0 ]

/-- READ AS-RUN (R181). -/
def execReadAsRun (n : Fin 4) (f : Word) (s : State) : Host.Outcome State Fault Refusal :=
  onCommand 0x80 n f (fun k t => .ok (t, readAsRunReply t.asRun (k.word 0))) s

/-! ### Notices (R197, R200, R201) -/

/-- A held notice's kind code and level (R197). NONE has the code 00h.
DESIGN CHOICE (log entry 43): NONE, which is of no level, has 0 in the level's byte; R197 and R201 give it a code and a zero
payload and no level. -/
def HeldNotice.header : HeldNotice → Byte × Byte
  | .none => (0, 0)
  | .notice q => (w8 q.notice.kind.code, w8 q.level)

/-- A held notice's payload; NONE has a zero payload (R197, R201). -/
def HeldNotice.payload : HeldNotice → List Word
  | .none => List.replicate 5 0
  | .notice q => q.notice.payload

/-- The six frames of a notice: the header with the queue count and the mask as they stand after the command, and the
payload (R197). -/
def noticeFrames (l : Link) (h : HeldNotice) : List Word :=
  frameOfBytes h.header.1 h.header.2 (w8 l.queue.length) (w8 l.mask) :: h.payload

/-- The highest level in a queue. -/
def highestLevel : List Queued → Nat
  | [] => 0
  | q :: rest => max q.level (highestLevel rest)

/-- The mask a fetched notice sets: its level, or 7 for an ALERT (R201). -/
def Queued.maskLevel (q : Queued) : Nat := if q.notice.kind = .alert then 7 else q.level

/-- A link after a fetched notice is removed: the mask is pushed and rises to the notice's level (R201). -/
def Link.fetch (l : Link) (q : Queued) : Link :=
  { l with queue := discardOldest (highestLevel l.queue) l.queue, stack := l.stack ++ [l.mask], mask := q.maskLevel,
           heldNotice := some (.notice q) }

/-- NEXT NOTICE (R201): the oldest notice of the highest level. -/
def nextNotice (n : Fin 4) (s : State) : Answer :=
  let l := s.link n
  match l.queue.find? fun q => q.level == highestLevel l.queue with
  | none =>
    let l' := { l with heldNotice := some .none }
    .ok (putLink n l' s, noticeFrames l' .none)
  | some q =>
    if l.stack.length < Config.stackSize then
      let l' := l.fetch q
      .ok (putLink n l' s, noticeFrames l' (.notice q))
    else .error .nestFull

/-- NEXT NOTICE (R201). -/
def execNextNotice (n : Fin 4) (f : Word) (s : State) : Host.Outcome State Fault Refusal :=
  onCommand 0x90 n f (fun _ t => nextNotice n t) s

/-- REPEAT NOTICE: the held notice again, or NONE when none is held (R201). -/
def repeatNotice (n : Fin 4) (s : State) : Answer :=
  let l := s.link n
  .ok (s, noticeFrames l (l.heldNotice.getD .none))

/-- REPEAT NOTICE (R201). -/
def execRepeatNotice (n : Fin 4) (f : Word) (s : State) : Host.Outcome State Fault Refusal :=
  onCommand 0x91 n f (fun _ t => repeatNotice n t) s

/-- A link after NOTICE DONE: the newest saved mask is popped; with none saved the mask is 0 (R200). -/
def Link.done (l : Link) : Link := { l with mask := l.stack.getLast?.getD 0, stack := l.stack.dropLast }

/-- NOTICE DONE (R200). -/
def noticeDone (n : Fin 4) (s : State) : Answer :=
  let l := s.link n
  .ok (putLink n l.done s, pack [] [] [w8 l.mask, w8 l.done.mask, w8 l.done.stack.length])

/-- NOTICE DONE (R200). -/
def execNoticeDone (n : Fin 4) (f : Word) (s : State) : Host.Outcome State Fault Refusal :=
  onCommand 0x92 n f (fun _ t => noticeDone n t) s

/-- SET MASK: above 7 stored as 7; the stack is left as it is (R200). -/
def setMask (n : Fin 4) (k : Command) (s : State) : Answer :=
  let l := s.link n
  let mask := clampTo 7 k.op
  .ok (putLink n { l with mask := mask } s, pack [] [] [w8 l.mask, w8 mask])

/-- SET MASK (R200). -/
def execSetMask (n : Fin 4) (f : Word) (s : State) : Host.Outcome State Fault Refusal := onCommand 0x93 n f (setMask n) s

/-- The level a link holds for a kind's code; ALERT reads 8 (R188, R198, R200). -/
def Link.levelShown (l : Link) (code : Nat) : Nat := if code = 0x14 then 8 else l.levels.toList.getD code 0

/-- A link with a level written: ALERT is accepted and changes nothing (R200). -/
def Link.withLevel (l : Link) (code : Fin 21) (level : Nat) : Link :=
  if code.val = 0x14 then l else { l with levels := l.levels.set code level }

/-- The code of a settable notice kind, 01h to 14h. NONE, 00h, is the kind of no notice that is posted, and is refused with
the codes that name no kind (R200, log entry 15). -/
def kindCode? (code : Nat) : Option (Fin 21) := if code = 0 then none else index? 21 code

/-- SET LEVELS: the kind in the selector and the level in the operand (R200). -/
def setLevels (n : Fin 4) (k : Command) (s : State) : Answer := do
  let code ← orElse .badArgument (kindCode? k.selector)
  let l := s.link n
  let l' := l.withLevel code (clampTo 7 k.op)
  return (putLink n l' s, pack [] [] [w8 (l.levelShown code), w8 (l'.levelShown code)])

/-- SET LEVELS (R200). -/
def execSetLevels (n : Fin 4) (f : Word) (s : State) : Host.Outcome State Fault Refusal :=
  onCommand 0x94 n f (setLevels n) s

/-! ### READ LINK and CLEAR LINK FLAGS (R188) -/

/-- The stack's four places, oldest first, FFh for an empty one (R188). -/
def Link.stackBytes (l : Link) : List Byte := (List.range 4).map fun i => opt8 ((l.stack[i]?).map w8)

/-- The reply to READ LINK (R188): the levels are those of the kinds 01h to 14h. -/
def readLinkReply (l : Link) : List Word :=
  pack [] []
    ([l.flags, w8 l.role.code, w8 l.mask, w8 l.stack.length] ++ l.stackBytes
      ++ [w8 l.queue.length, wBool l.heldNotice.isSome] ++ (List.range 20).map fun i => w8 (l.levelShown (i + 1)))

/-- READ LINK (R188). -/
def execReadLink (n : Fin 4) (f : Word) (s : State) : Host.Outcome State Fault Refusal :=
  onCommand 0x95 n f (fun _ t => .ok (t, readLinkReply (t.link n))) s

/-- CLEAR LINK FLAGS: the mask in the operand; the reply carries the flags before and after (R188). -/
def clearLinkFlags (n : Fin 4) (k : Command) (s : State) : Answer :=
  let l := s.link n
  let flags := clearedFlags l.flags k.operand
  .ok (putLink n { l with flags := flags } s, pack [] [] [l.flags, flags])

/-- CLEAR LINK FLAGS (R188). -/
def execClearLinkFlags (n : Fin 4) (f : Word) (s : State) : Host.Outcome State Fault Refusal :=
  onCommand 0x96 n f (clearLinkFlags n) s

/-! ### The link's own rows (R184, R185, R187) -/

/-- UNKNOWN_COMMAND: a code that names no command is refused with BAD_COMMAND (R185). -/
def execUnknownCommand (n : Fin 4) (f : Word) (s : State) : Host.Outcome State Fault Refusal :=
  onFrame n f (fun k => (commandRow? k.code).isNone) (fun _ _ => .error .badCommand) s

/-- NOP: taken as nothing in command position (R184). -/
def execNop (n : Fin 4) (f : Word) (s : State) : Host.Outcome State Fault Refusal := onBareFrame n f s

/-- DATA_FRAME: a frame that sends the receiver to data position or keeps it there (R184). -/
def execDataFrame (n : Fin 4) (f : Word) (s : State) : Host.Outcome State Fault Refusal := onBareFrame n f s

/-- ALL_ONES_FRAME_HELD: an all-ones frame, held until the next frame (R187). -/
def execAllOnesFrameHeld (n : Fin 4) (s : State) : Host.Outcome State Fault Refusal := onBareFrame n allOnesFrame s

/-- LINK_RESYNC: the second of two all-ones frames resynchronises the link (R187). -/
def execLinkResync (n : Fin 4) (s : State) : Host.Outcome State Fault Refusal := onBareFrame n allOnesFrame s

end Sys2Proof.Machine
end

