-- ==== Sys2Proof/Machine/StationCommands.lean ====
section
/-! DEFINITION. The commands of the presenter stations: SET STATION, SET POSITION, LAMP OVERRIDE, LAMP RELEASE, READ
STATION and READ MARK (R128, R129, R139, R141, R146). -/

namespace Sys2Proof.Machine

/-- An on or off setting from its code (R128): off is 0 and on is 1 (DEDUCED, log entry 6: as R195 codes the truth values of
READ TRIGGER). -/
def onOff? : Nat → Option Bool
  | 0 => some false
  | 1 => some true
  | _ => none

/-- A setting with an on or off value: all ones leaves it, any other code is refused with BAD_ARGUMENT (R128). -/
def onOffSetting (old : Bool) (b : Byte) : Except Reason Bool :=
  if absent8 b then .ok old else orElse .badArgument (onOff? b.toNat)

/-- The settings of a station, as the reply to SET STATION carries them (R128, R191). -/
def Station.settings (x : Station) : List Word :=
  pack [] [w16 x.wrapLead] [x.enables, w8 x.step, wBool x.follow, wBool x.interlock]

/-- SET STATION: the wrap lead in the operand, and the enable set, step, FOLLOW and INTERLOCK in the data frame (R128, log
entry 12). The lamp state follows the wrap lead by itself, since it is a function of the state. -/
def setStation (k : Command) (s : State) : Answer := do
  let st ← needStation k.selector
  let x := s.station st
  let follow ← onOffSetting x.follow (byteOf (k.word 0) 2)
  let interlock ← onOffSetting x.interlock (byteOf (k.word 0) 3)
  let y : Station :=
    { x with
      wrapLead := keepOr16 x.wrapLead k.operand (clampTo 3000), enables := byteOf (k.word 0) 0,
      step := keepOr8 x.step (byteOf (k.word 0) 1) (clampBetween 1 64), follow := follow, interlock := interlock }
  return (putStation st y s, y.settings)

/-- SET STATION (R128). -/
def execSetStation (n : Fin 4) (f : Word) (s : State) : Host.Outcome State Fault Refusal :=
  onCommand 0x50 n f setStation s

/-- SET POSITION: a jump; the reply carries the old position, the stored one and the number of marks skipped (R129). -/
def setPosition (k : Command) (s : State) : Answer := do
  let st ← needStation k.selector
  let x := s.station st
  let q := clampTo Config.maxScroll (k.word 0).toNat
  return (jumpTo st q s, pack [w32 x.position, w32 q] [] [w8 (skippedByJump x q)])

/-- SET POSITION (R129). -/
def execSetPosition (n : Fin 4) (f : Word) (s : State) : Host.Outcome State Fault Refusal :=
  onCommand 0x51 n f setPosition s

/-- A change of the override, with the shown state before and after it (R141). -/
def overrideAnswer (st : StationId) (o : Option Override) (s : State) : Answer :=
  let t := setOverride st o s
  .ok (t, pack [] [] [w8 (shownLamp s st).code, w8 (shownLamp t st).code])

/-- LAMP OVERRIDE (R141). -/
def lampOverride (k : Command) (s : State) : Answer := do
  let st ← needStation k.selector
  let lamp ← orElse .badArgument (lampOfCode? k.op)
  overrideAnswer st (some { state := lamp, source := .director }) s

/-- LAMP OVERRIDE (R141). -/
def execLampOverride (n : Fin 4) (f : Word) (s : State) : Host.Outcome State Fault Refusal :=
  onCommand 0x52 n f lampOverride s

/-- LAMP RELEASE (R141). -/
def lampRelease (k : Command) (s : State) : Answer := do
  let st ← needStation k.selector
  overrideAnswer st none s

/-- LAMP RELEASE (R141). -/
def execLampRelease (n : Fin 4) (f : Word) (s : State) : Host.Outcome State Fault Refusal :=
  onCommand 0x53 n f lampRelease s

/-- The number of ARMED marks (R146). -/
def Station.armedMarks (x : Station) : Nat := (x.marks.filter fun m => m.state == .armed).length

/-- The reply to READ STATION (R146). -/
def readStationReply (st : StationId) (s : State) : List Word :=
  let x := s.station st
  let shown := shownLamp s st
  let lines := shown.lines
  pack
    [ w32 x.position, opt32 (x.countRem.map signed32), opt32 x.pressIndex,
      opt32 (x.pressTime.map (labelWord s.clock.mode)) ]
    [w16 x.wrapLead, opt16 (x.countdown.map signed16)]
    [ w8 x.direction.code, x.enables, w8 x.step, wBool x.follow, wBool x.interlock, w8 (computedLamp s st).code,
      opt8 (x.override.map fun o => w8 o.state.code), opt8 (x.override.map fun o => w8 o.source.code), w8 shown.code,
      wBool lines.1, wBool lines.2.1, wBool lines.2.2, wBool x.pa, wBool x.pb, wBool x.readyLine, wBool x.ready,
      w8 x.marks.length, w8 x.armedMarks ]

/-- READ STATION (R146). -/
def readStation (k : Command) (s : State) : Answer := do
  let st ← needStation k.selector
  return (s, readStationReply st s)

/-- READ STATION (R146). -/
def execReadStation (n : Fin 4) (f : Word) (s : State) : Host.Outcome State Fault Refusal :=
  onCommand 0x54 n f readStation s

/-- The reply to READ MARK: the status byte is 0 for a mark and 1 for NONE (R139, log entry 12). -/
def readMarkReply (count : Nat) (m : Option Mark) : List Word :=
  let byte (g : Mark → Byte) : Byte := opt8 (m.map g)
  pack [opt32 (m.map fun x => x.story), opt32 (m.map fun x => w32 x.position)] [opt16 (m.map fun x => x.argument)]
    [ w8 count, if m.isSome then 0 else 1, byte fun x => w8 x.entry, byte fun x => w8 x.cueIndex,
      byte fun x => w8 x.channel.val, byte fun x => w8 x.action.code, byte fun x => w8 x.state.code ]

/-- READ MARK (R139). -/
def readMark (k : Command) (s : State) : Answer := do
  let st ← needStation k.selector
  require (decide (k.op < Config.maxMarks)) .badArgument
  let x := s.station st
  return (s, readMarkReply x.marks.length x.marks[k.op]?)

/-- READ MARK (R139). -/
def execReadMark (n : Fin 4) (f : Word) (s : State) : Host.Outcome State Fault Refusal := onCommand 0x55 n f readMark s

end Sys2Proof.Machine
end

