-- ==== Sys2Proof/Machine/StoreCommands.lean ====
section
/-! DEFINITION. The rundown store's commands: NEW ENTRY to CLEAR RUNDOWN and REPORT DURATION (R28 to R46). -/

namespace Sys2Proof.Machine

/-! ### Changes of the running order (R24, R25, R29 to R31) -/

/-- A record inserted directly after an id, 0 meaning the head (R28, R31). -/
def insertAfter (after : Nat) (e : Entry) (order : List Entry) : List Entry :=
  if after = 0 then e :: order else order.flatMap fun x => if x.id = after then [x, e] else [x]

/-- The running order replaced: the revision advances, RUNDOWN_CHANGED is posted, and timing is marked dirty (R25,
R26). -/
def changeOrder (change : OrderChange) (id : Nat) (after : Option Nat) (order : List Entry) (s : State) : State :=
  let rev := s.store.revision + 1
  post (.rundownChanged change id after order.length rev)
    (markDirty { s with store := { s.store with order := order, revision := rev } })

/-- The record of a new entry (R28). -/
def newRecord (id : Nat) (kind : EntryKind) (story : Word) (planned : Nat) : Entry :=
  { id := id, kind := kind, state := .ready, story := story, planned := planned, minimum := none, reported := none,
    hardPost := none, station := none, scriptStart := none, clipChannel := none, float := false, autoAdvance := false,
    autoPost := false, editedOnAir := false, cues := [], takeIndex := none, takeTime := none }

/-- A STORY_REF: every value but all ones (section 2.1, R28, R32). -/
def story? (w : Word) : Option Word := if absent32 w then none else some w

/-- An after-id names an entry or is 0, the head (R28, R31). -/
def needAfter (s : State) (after : Nat) : Except Reason Unit := require (after == 0 || s.names after) .badId

/-- NEW ENTRY (R28): the KIND stands in bits 16-23, the STORY_REF and PLANNED in the data frames (R190).
DESIGN CHOICE (log entry 40): bits 24-31 of the command frame, in which R190 places nothing, are disregarded whatever they
are. -/
def newEntry (k : Command) (s : State) : Answer := do
  let after := k.selector
  needAfter s after
  let kind ← orElse .badArgument (kindOfCode? k.opLow.toNat)
  let story ← orElse .badArgument (story? (k.word 0))
  let planned ← orElse .badArgument (duration? (k.word 1))
  let id ← orElse .full s.store.lowestFree?
  let order := insertAfter after (newRecord id kind story planned) s.store.order
  return (orderChanged id (changeOrder .inserted id (some after) order (noteCreated id s)), pack [w32 planned] [] [w8 id])

/-- NEW ENTRY (R28). -/
def execNewEntry (n : Fin 4) (f : Word) (s : State) : Host.Outcome State Fault Refusal := onCommand 0x10 n f newEntry s

/-! ### DELETE ENTRY (R29, R30, R160) -/

/-- The entry id a condition names (R160). -/
def Condition.entryNamed : Condition → Option Nat
  | .entryOnAir id => some id
  | .entryDone id => some id
  | _ => none

/-- The entry id an ARM action names (R160). -/
def Action.entryNamed : Action → Option Nat
  | .arm id => some id
  | _ => none

/-- A unit dropped: disabled and marked, with TRIGGER_DROPPED (R160). -/
def dropUnit (u : Fin 8) (id : Nat) (cleared : Bool) (s : State) : State :=
  let x := s.triggers.units[u]
  post (.triggerDropped u id cleared) (putUnit u { x with enable := false, dropped := true } s)

/-- A unit whose condition or ARM action names the freed id is dropped (R160). -/
def dropUnitNaming (id : Nat) (u : Fin 8) (s : State) : State :=
  let x := s.triggers.units[u]
  if x.condition.entryNamed = some id ∨ x.action.entryNamed = some id then dropUnit u id false s else s

/-- The entry id a TRIGGER_DROPPED of CLEAR RUNDOWN carries: the one the unit names; free where it names two (log entry
5). -/
def TriggerUnit.clearedId (x : TriggerUnit) : Option Nat :=
  match x.condition.entryNamed, x.action.entryNamed with
  | some a, some b => some (if Config.droppedNamesCondition then a else b)
  | some a, none => some a
  | none, b => b

/-- A unit whose condition or ARM action names any entry id is dropped (R46, step 4; R160). -/
def dropUnitCleared (u : Fin 8) (s : State) : State :=
  match (s.triggers.units[u]).clearedId with
  | some id => dropUnit u id true s
  | none => s

/-- A freed id is handed to its neighbours: the fallback and the trigger units (R30). The units dropped post in rising unit
number (DESIGN CHOICE, log entry 36: R160 gives no order). -/
def handFreed (id : Nat) (s : State) : State :=
  let s1 := if s.tkc.fallback = some id then { s with tkc := { s.tkc with fallback := none } } else s
  forEach (List.finRange 8) (dropUnitNaming id) s1

/-- The freed id reaches the take controller: an armed entry leaves its slot, and auto-arm runs (R29, R51, R53). -/
def freedFromSlot (id : Nat) (s : State) : State :=
  autoArm (if s.armedId = id then postArmed id (putArmed none s) else s)

/-- DELETE ENTRY (R29). -/
def deleteEntry (k : Command) (s : State) : Answer := do
  let id := k.selector
  let e ← needEntry s id
  require (e.state != .onAir) .state
  let order := s.store.order.filter fun x => x.id != id
  let t := freedFromSlot id (handFreed id (changeOrder .removed id none order s))
  return (t, pack [] [w16 e.cues.length] [w8 id])

/-- DELETE ENTRY (R29). -/
def execDeleteEntry (n : Fin 4) (f : Word) (s : State) : Host.Outcome State Fault Refusal :=
  onCommand 0x11 n f deleteEntry s

/-! ### MOVE ENTRY (R31) -/

/-- The running order with an entry moved to stand directly after an id (R31). -/
def movedOrder (e : Entry) (after : Nat) (order : List Entry) : List Entry :=
  insertAfter after e (order.filter fun x => x.id != e.id)

/-- MOVE ENTRY (R31, R53). -/
def moveEntry (k : Command) (s : State) : Answer := do
  let id := k.selector
  let after := k.op
  let e ← needEntry s id
  needAfter s after
  require (after != id) .badArgument
  let order := movedOrder e after s.store.order
  let t := if order.map (fun x => x.id) = s.store.order.map (fun x => x.id) then s
    else orderMoved id (changeOrder .moved id (some after) order s)
  return (t, pack [] [t.store.revision] [w8 id, w8 after])

/-- MOVE ENTRY (R31). -/
def execMoveEntry (n : Fin 4) (f : Word) (s : State) : Host.Outcome State Fault Refusal := onCommand 0x12 n f moveEntry s

/-! ### Fields (R32 to R35, R44, R192) -/

/-- The FLAGS field: FLOAT bit 0, AUTO_ADVANCE 1, AUTO_POST 2, EDITED_ON_AIR 3 (R192). -/
def Entry.flags (e : Entry) : Byte :=
  wBool e.float ||| (wBool e.autoAdvance <<< 1) ||| (wBool e.autoPost <<< 2) ||| (wBool e.editedOnAir <<< 3)

/-- An entry's place in the running order, 1 for the head (R44). -/
def Store.position (st : Store) (id : Nat) : Nat := st.order.findIdx (fun e => e.id == id) + 1

/-- A field in its link form, by the codes of R192 (R32, R44): absent reads as all ones. -/
def fieldWord? (s : State) (e : Entry) (field : Nat) : Option Word :=
  match field with
  | 0 => some (w32 e.kind.code)
  | 1 => some e.story
  | 2 => some (w32 e.planned)
  | 3 => some (opt32 (e.minimum.map w32))
  | 4 => some (opt32 (e.hardPost.map (labelWord s.clock.mode)))
  | 5 => some (w32 (stationFieldCode e.station))
  | 6 => some (opt32 (e.scriptStart.map w32))
  | 7 => some (opt32 (e.clipChannel.map fun c => w32 c.val))
  | 8 => some (w32 e.state.code)
  | 9 => some (opt32 (e.reported.map w32))
  | 10 => some (e.flags.setWidth 32)
  | 11 => some (opt32 e.takeIndex)
  | 12 => some (opt32 (e.takeTime.map (labelWord s.clock.mode)))
  | 13 => some (w32 e.cues.length)
  | 14 => some (w32 (s.store.position e.id))
  | 15 => some (w32 (s.effective e))
  | _ => none

/-- The STATION field from its code: A, B or NONE (R192). The outer none is a refusal. -/
def stationField? (w : Word) : Option (Option StationId) :=
  match w.toNat with
  | 0 => some (some .a)
  | 1 => some (some .b)
  | 2 => some none
  | _ => none

/-- A HARD_POST from a link: all ones makes it absent, and a label is checked and promoted (R14, R32). -/
def hardPostField (m : Mode) (w : Word) : Except Reason (Option Nat) :=
  if absent32 w then .ok none
  else match checkLabel m w with
    | some l => .ok (some (countOf m l))
    | none => .error .badTime

/-- A CLIP_CHANNEL from a link: all ones makes it absent (R32). The outer none is a refusal. -/
def clipChannelField? (w : Word) : Option (Option (Fin 16)) :=
  if absent32 w then some none else (index? 16 w.toNat).map some

/-- The record with a field written, checked and stored as R32's table states. -/
def writeValue (m : Mode) (field : Nat) (w : Word) (e : Entry) : Except Reason Entry :=
  match field with
  | 0 => do return { e with kind := ← orElse .badArgument (kindOfCode? w.toNat) }
  | 1 => do return { e with story := ← orElse .badArgument (story? w) }
  | 2 => do return { e with planned := ← orElse .badArgument (duration? w) }
  | 3 => .ok { e with minimum := optionalClamped Config.maxDuration w }
  | 4 => do return { e with hardPost := ← hardPostField m w }
  | 5 => do return { e with station := ← orElse .badArgument (stationField? w) }
  | 6 => .ok { e with scriptStart := optionalClamped Config.maxScroll w }
  | 7 => do return { e with clipChannel := ← orElse .badArgument (clipChannelField? w) }
  | _ => .error .badArgument

/-- EDITED_ON_AIR is set by an accepted edit of an entry that is ON_AIR (R21). -/
def Entry.edited (e : Entry) : Entry := if e.state = .onAir then { e with editedOnAir := true } else e

/-- An edited record stored. -/
def storeEdit (e : Entry) (s : State) : State := updateEntry e.id (fun _ => e.edited) s

/-- The programme entry's target is replaced by an edit, and the trigger units then test the new remaining time (R62,
R154). -/
def retarget (g : Nat) (s : State) : State := thenEvents (replaceTarget g) s

/-- What follows a write, by its field: PLANNED, MINIMUM and HARD_POST mark timing dirty (R26); a PLANNED of the programme
entry replaces its target (R34); a STATION of it moves its countdown (R35). -/
def afterWrite (field : Nat) (e : Entry) (s : State) : State :=
  match field with
  | 2 => if s.pgmId = e.id then retarget e.planned (markDirty s) else markDirty s
  | 3 => markDirty s
  | 4 => markDirty s
  | 5 => if s.pgmId = e.id then updateCountdowns s else s
  | _ => s

/-- A write of KIND to an entry ON_AIR is refused (R33). -/
def writeAdmitted (field : Nat) (e : Entry) : Bool := !(field == 0 && e.state == .onAir)

/-- WRITE FIELD (R32): the entry in the selector, the field in the operand, the value in the data frame. -/
def writeField (k : Command) (s : State) : Answer := do
  let e ← needEntry s k.selector
  let x ← writeValue s.clock.mode k.op (k.word 0) e
  require (writeAdmitted k.op e) .state
  let t := afterWrite k.op x (storeEdit x s)
  return (t, [(fieldWord? s e k.op).getD 0, (fieldWord? s x k.op).getD 0])

/-- WRITE FIELD (R32). -/
def execWriteField (n : Fin 4) (f : Word) (s : State) : Host.Outcome State Fault Refusal := onCommand 0x13 n f writeField s

/-- READ FIELD (R44). -/
def readField (k : Command) (s : State) : Answer := do
  let e ← needEntry s k.selector
  let w ← orElse .badArgument (fieldWord? s e k.op)
  return (s, [w])

/-- READ FIELD (R44). -/
def execReadField (n : Fin 4) (f : Word) (s : State) : Host.Outcome State Fault Refusal := onCommand 0x14 n f readField s

/-! ### Flags (R37, R38) -/

/-- The flags a role may change (R37). -/
def Role.flagMask : Role → Byte
  | .newsroom => 0x07
  | .director => 0x03
  | .playout => 0x00
  | .prompter => 0x00

/-- The three changeable flags of a record from a byte (R192). -/
def Entry.withFlags (e : Entry) (b : Byte) : Entry :=
  { e with float := b.getLsbD 0, autoAdvance := b.getLsbD 1, autoPost := b.getLsbD 2 }

/-- An accepted change of FLOAT: timing is marked dirty and the change is handed to the take controller, which disarms a
floated armed entry first (R26, R38, R51 to R53). -/
def floatChanged (id : Nat) (s : State) : State :=
  let s1 := markDirty s
  match s1.entry? id with
  | some e => if e.state = .armed ∧ e.float = true then autoArm (disarmTo .ready s1) else orderChanged id s1
  | none => s1

/-- SET FLAGS and CLEAR FLAGS: the mask's bits that the role may change are set or cleared (R37). -/
def changeFlags (set : Bool) (role : Role) (k : Command) (s : State) : Answer := do
  let e ← needEntry s k.selector
  require (decide (k.op < 16)) .badArgument
  let mask := k.opLow &&& role.flagMask
  let x := e.withFlags (if set then e.flags ||| mask else e.flags &&& ~~~mask)
  let s1 := storeEdit x s
  let t := if x.float = e.float then s1 else floatChanged e.id s1
  return (t, pack [] [] [e.flags, x.edited.flags])

/-- SET FLAGS (R37). -/
def execSetFlags (n : Fin 4) (f : Word) (s : State) : Host.Outcome State Fault Refusal :=
  onCommand 0x15 n f (fun k t => changeFlags true (t.link n).role k t) s

/-- CLEAR FLAGS (R37). -/
def execClearFlags (n : Fin 4) (f : Word) (s : State) : Host.Outcome State Fault Refusal :=
  onCommand 0x16 n f (fun k t => changeFlags false (t.link n).role k t) s

/-! ### Cue lists (R39, R41, R44) -/

/-- The place of a new cue record: all ones is the end, and a place above the count is refused (R39). -/
def cuePlace? (h : Half) (count : Nat) : Option Nat :=
  if absent16 h then some count else if h.toNat ≤ count then some h.toNat else none

/-- ADD CUE (R39): the position in the operand, the record in the data frames.
DEDUCED (log entry 12): the record's three frames stand first in the reply, before the frame of the free cue records, the
index and the count; R39 lists the index first and R191 gives a record three frames of its own. DESIGN CHOICE (log entry 40):
bits 16-31 of the record's third frame are disregarded. -/
def addCue (k : Command) (s : State) : Answer := do
  let e ← needEntry s k.selector
  let place ← orElse .badArgument (cuePlace? k.operand e.cues.length)
  let cue ← orElse .badArgument (cueOfFrames? k)
  require (decide (0 < s.store.cuesFree) && decide (e.cues.length < Config.maxCuesPerEntry)) .full
  let cues := e.cues.insertIdx place cue
  let t := storeEdit { e with cues := cues } s
  return (t, cue.frames ++ pack [] [w16 t.store.cuesFree] [w8 place, w8 cues.length])

/-- ADD CUE (R39). -/
def execAddCue (n : Fin 4) (f : Word) (s : State) : Host.Outcome State Fault Refusal := onCommand 0x17 n f addCue s

/-- REMOVE CUE (R41). DEDUCED (log entry 12): the record's three frames stand first in the reply, before the frame of the free
cue records and the count. -/
def removeCue (k : Command) (s : State) : Answer := do
  let e ← needEntry s k.selector
  let cue ← orElse .badArgument e.cues[k.op]?
  let cues := e.cues.eraseIdx k.op
  let t := storeEdit { e with cues := cues } s
  return (t, cue.frames ++ pack [] [w16 t.store.cuesFree] [w8 cues.length])

/-- REMOVE CUE (R41). -/
def execRemoveCue (n : Fin 4) (f : Word) (s : State) : Host.Outcome State Fault Refusal := onCommand 0x18 n f removeCue s

/-- READ CUE (R44). -/
def readCue (k : Command) (s : State) : Answer := do
  let e ← needEntry s k.selector
  let cue ← orElse .badArgument e.cues[k.op]?
  return (s, cue.frames)

/-- READ CUE (R44). -/
def execReadCue (n : Fin 4) (f : Word) (s : State) : Host.Outcome State Fault Refusal := onCommand 0x19 n f readCue s

/-! ### The order (R43) and its clearing (R45, R46) -/

/-- The id at a place of the running order, 0 at or beyond its end (R43). -/
def Store.idAt (st : Store) (p : Nat) : Nat := ((st.order[p]?).map fun e => e.id).getD 0

/-- READ ORDER (R43). -/
def readOrder (k : Command) (s : State) : Answer := do
  let p := k.op
  require (decide (p < Config.maxEntries)) .badArgument
  let st := s.store
  let ids := (List.range 8).map fun i => w8 (st.idAt (p + i))
  return (s, pack [] [st.revision, w16 st.cuesFree]
    ([w8 st.order.length, w8 (Config.maxEntries - st.order.length)] ++ ids))

/-- READ ORDER (R43). -/
def execReadOrder (n : Fin 4) (f : Word) (s : State) : Host.Outcome State Fault Refusal := onCommand 0x1A n f readOrder s

/-- The armed slot is emptied with its entry freed (R46, step 2). -/
def clearArmed (s : State) : State :=
  match s.tkc.armed with
  | none => s
  | some a => postArmed a.id (putArmed none s)

/-- Both mark lists emptied (R46, step 5). -/
def clearMarks (s : State) : State := { s with stations := mapTable (fun _ x => { x with marks := [] }) s.stations }

/-- The work of an accepted CLEAR RUNDOWN (R46, steps 1 to 7). The units dropped post in rising unit number (DESIGN CHOICE,
log entry 36). -/
def clearRundownWork (s : State) : State :=
  let freed := s.store.order.length
  let s1 := clearArmed { s with store := { s.store with order := [] } }
  let s2 := { s1 with tkc := { s1.tkc with fallback := none } }
  let s3 := clearMarks (forEach (List.finRange 8) dropUnitCleared s2)
  updateCountdowns (append .cleared none none none freed (changeOrder .cleared 0 none [] s3))

/-- CLEAR RUNDOWN (R45). -/
def clearRundown (_ : Command) (s : State) : Answer := do
  require ((s.store.order.all fun e => e.state != .onAir) && s.tkc.engine == .normal) .state
  return (clearRundownWork s, pack [] [w16 s.store.cuesUsed] [w8 s.store.order.length])

/-- CLEAR RUNDOWN (R45). -/
def execClearRundown (n : Fin 4) (f : Word) (s : State) : Host.Outcome State Fault Refusal :=
  onCommand 0x1B n f clearRundown s

/-! ### REPORT DURATION (R40) -/

/-- A report is admitted for an entry that is READY, ARMED or ON_AIR (R33, R40). -/
def EntryState.admitsReport : EntryState → Bool
  | .done => false
  | .dropped => false
  | _ => true

/-- REPORT DURATION (R40). -/
def reportDuration (k : Command) (s : State) : Answer := do
  let e ← needEntry s k.selector
  let d ← orElse .badArgument (duration? (k.word 0))
  require e.state.admitsReport .state
  let s1 := markDirty (storeEdit { e with reported := some d } s)
  let t := if s.pgmId = e.id then retarget d s1 else s1
  return (t, [opt32 (e.reported.map w32), w32 d])

/-- REPORT DURATION (R40). -/
def execReportDuration (n : Fin 4) (f : Word) (s : State) : Host.Outcome State Fault Refusal :=
  onCommand 0x1C n f reportDuration s

end Sys2Proof.Machine
end

