-- ==== Sys2Proof/Machine/TakeCommands.lean ====
section
/-! DEFINITION. The take controller's commands: ARM to READ TAKE STATUS (R54, R55, R57, R63, R64, R72, R170, R176). -/

namespace Sys2Proof.Machine

/-! ### Arming (R54, R55) -/

/-- The hold-arm latch written. -/
def setHoldArm (b : Bool) (s : State) : State := { s with tkc := { s.tkc with holdArm := b } }

/-- ARM (R54). -/
def arm (k : Command) (s : State) : Answer := do
  let e ← needEntry s k.selector
  require e.eligible .state
  return (setHoldArm false (armEntry e.id .manual s), pack [] [] [w8 e.id, w8 s.armedId])

/-- ARM (R54). -/
def execArm (n : Fin 4) (f : Word) (s : State) : Host.Outcome State Fault Refusal := onCommand 0x20 n f arm s

/-- DISARM (R55). -/
def disarm (_ : Command) (s : State) : Answer :=
  .ok (setHoldArm true (disarmTo .ready s), pack [] [] [w8 s.armedId])

/-- DISARM (R55). -/
def execDisarm (n : Fin 4) (f : Word) (s : State) : Host.Outcome State Fault Refusal := onCommand 0x21 n f disarm s

/-! ### Taking (R57) -/

/-- The checks of TAKE and TAKE FORCED, in order: SAFE, the armed slot, and for TAKE the interlock (R57). -/
def takeChecks (src : TakeSource) (s : State) : Except Reason Armed := do
  require (s.tkc.engine == .normal) .state
  let a ← orElse .state s.tkc.armed
  require (!(src.testsInterlock && ((s.entry? a.id).map fun e => s.interlockClosed e).getD false)) .notReady
  return a

/-- The reply to a take: the take index, the entry taken, the outgoing entry and the length used (R57, R191). -/
def takeReply (id t : Nat) (s : State) : List Word := pack [s.now] [] [w8 id, w8 s.outId, w8 t]

/-- The length used becomes the last transition length (R57). -/
def setLastLength (t : Nat) (s : State) : State := { s with tkc := { s.tkc with lastLength := t } }

/-- A director's take of the armed entry (R57, R58). The reply is formed when the take is complete; the requests of
trigger units that the take met are carried out after it (R70). -/
def directorTake (src : TakeSource) (k : Command) (s : State) : Answer := do
  let a ← takeChecks src s
  let t := k.transitionLength s.tkc.lastLength
  let taken := takeEntry src a.id t (setLastLength t s)
  return (serveTriggers taken, takeReply a.id t taken)

/-- TAKE (R57). -/
def execTake (n : Fin 4) (f : Word) (s : State) : Host.Outcome State Fault Refusal :=
  onCommand 0x22 n f (directorTake .director) s

/-- TAKE FORCED (R57). -/
def execTakeForced (n : Fin 4) (f : Word) (s : State) : Host.Outcome State Fault Refusal :=
  onCommand 0x23 n f (directorTake .forced) s

/-! ### Dropping and restoring (R63, R64) -/

/-- A READY entry, or the armed entry, becomes DROPPED, with its record; auto-arm then runs (R63). -/
def dropEntry (e : Entry) (s : State) : State :=
  let s1 := if s.armedId = e.id then disarmTo .dropped s else setEntryState e.id .dropped s
  autoArm (append .dropped (some e.id) (some e.story) none 0 s1)

/-- DROP is admitted for a READY or ARMED entry (R63). -/
def EntryState.admitsDrop : EntryState → Bool
  | .ready => true
  | .armed => true
  | _ => false

/-- RESTORE is admitted for a DONE or DROPPED entry (R64). -/
def EntryState.admitsRestore : EntryState → Bool
  | .done => true
  | .dropped => true
  | _ => false

/-- DROP (R63). -/
def drop (k : Command) (s : State) : Answer := do
  let e ← needEntry s k.selector
  require e.state.admitsDrop .state
  return (dropEntry e s, pack [] [] [w8 e.id, w8 e.state.code])

/-- DROP (R63). -/
def execDrop (n : Fin 4) (f : Word) (s : State) : Host.Outcome State Fault Refusal := onCommand 0x24 n f drop s

/-- RESTORE (R64). -/
def restore (k : Command) (s : State) : Answer := do
  let e ← needEntry s k.selector
  require e.state.admitsRestore .state
  return (orderChanged e.id (setEntryState e.id .ready s), pack [] [] [w8 e.id, w8 e.state.code])

/-- RESTORE (R64). -/
def execRestore (n : Fin 4) (f : Word) (s : State) : Host.Outcome State Fault Refusal := onCommand 0x25 n f restore s

/-! ### The safe state (R170, R176) -/

/-- The fallback entry an id names, 0 meaning none (R170). -/
def fallbackOf (id : Nat) : Option Nat := if id = 0 then none else some id

/-- SET FALLBACK (R170). -/
def setFallback (k : Command) (s : State) : Answer := do
  let id := k.selector
  require (id == 0 || s.names id) .badId
  return ({ s with tkc := { s.tkc with fallback := fallbackOf id } }, pack [] [] [w8 (s.tkc.fallback.getD 0), w8 id])

/-- SET FALLBACK (R170). -/
def execSetFallback (n : Fin 4) (f : Word) (s : State) : Host.Outcome State Fault Refusal :=
  onCommand 0x26 n f setFallback s

/-- The work of RESUME: steps 1 to 4 of R176. -/
def resumeWork (s : State) : State :=
  let s1 := { s with tkc := { s.tkc with engine := .normal } }
  let s2 := setOverride .b none (setOverride .a none s1)
  let s3 := autoArm s2
  append .resume (s3.pgmEntry?.map fun e => e.id) (s3.pgmEntry?.map fun e => e.story) none 0 s3

/-- RESUME (R176). -/
def resume (_ : Command) (s : State) : Answer := do
  require (s.tkc.engine == .safe) .state
  let t := resumeWork s
  return (t, pack [] [] [w8 t.armedId])

/-- RESUME (R176). -/
def execResume (n : Fin 4) (f : Word) (s : State) : Host.Outcome State Fault Refusal := onCommand 0x27 n f resume s

/-! ### READ TAKE STATUS (R72) -/

/-- The reply to READ TAKE STATUS (R72).
DESIGN CHOICE (log entry 32): while a slot is empty its id reads 0, as R72 says, and its TAKE_INDEX, TAKE_TIME, target,
transition count or tag reads absent (all ones). -/
def takeStatusReply (s : State) : List Word :=
  let p := s.pgmEntry?
  pack
    [ opt32 (p.bind fun e => e.takeIndex), opt32 ((p.bind fun e => e.takeTime).map (labelWord s.clock.mode)),
      opt32 (s.tkc.pgm.map fun x => w32 x.target), opt32 (s.tkc.out.map fun x => w32 x.target) ] []
    [ w8 s.pgmId, w8 s.outId, opt8 (s.tkc.out.map fun x => w8 x.count), w8 s.armedId,
      opt8 (s.tkc.armed.map fun a => w8 a.tag.code), w8 s.tkc.lastLength, wBool s.tkc.holdArm, w8 (s.tkc.fallback.getD 0),
      w8 s.tkc.engine.code ]

/-- READ TAKE STATUS (R72). -/
def execReadTakeStatus (n : Fin 4) (f : Word) (s : State) : Host.Outcome State Fault Refusal :=
  onCommand 0x28 n f (fun _ t => .ok (t, takeStatusReply t)) s

end Sys2Proof.Machine
end

