-- ==== Sys2Proof/Machine/TallyCommands.lean ====
section
/-! DEFINITION. The tally matrix: the truth of its sources, the levels of its outputs, and SET TALLY and READ TALLY (R163
to R168, R194). The levels are functions of the whole state, so an output stands at the function of its sources after
every event; the moments between two blocks' events of one step are not shown (R166, log entry 14). -/

namespace Sys2Proof.Machine

/-- The truth of a source (R164, R165).
DESIGN CHOICE (log entry 47): a STOP CHANNEL that takes a channel from FIRED to IDLE makes CH_ACTIVE false, as R164 and R106
have it; R166 names that case as one in which the source changes back and the output does not move. -/
def Source.truth (s : State) : Source → Bool
  | .const0 => false
  | .pgmKind k => (s.pgmEntry?.map fun e => e.kind) == some k
  | .armKind k => (s.armedEntry?.map fun e => e.kind) == some k
  | .transition => s.tkc.out.isSome
  | .chActive c => (s.channel c).state.active
  | .chFault c => (s.channel c).faulted
  | .lamp st l => shownLamp s st == l
  | .safe => s.tkc.engine == .safe
  | .gpi i => s.tally.gpi.getLsb i
  | .over => s.timing.published.over
  | .under => s.timing.published.under s.tally.threshold
  | .refLost => s.clock.ref == .lost
  | .trig u => (s.triggers.units[u]).latch

/-- The index 4·A + 2·B + C of an output (R163). -/
def TallyOutput.index (s : State) (o : TallyOutput) : Nat :=
  4 * (o.a.truth s).toNat + 2 * (o.b.truth s).toNat + (o.c.truth s).toNat

/-- The level of an output: the bit of F its truth values look up (R163). -/
def TallyOutput.level (s : State) (o : TallyOutput) : Bool := o.f.getLsbD (o.index s)

/-- The level of a tally line (R163). -/
def State.tallyLevel (s : State) (i : Fin 24) : Bool := (s.tally.outputs[i]).level s

/-- The twenty-four levels together (R168, R191). DEDUCED (log entry 12): output i is bit i; the rules give the width alone. -/
def State.tallyLevels (s : State) : Word :=
  (List.finRange 24).foldl (fun w i => if s.tallyLevel i then w ||| ((1 : Word) <<< i.val) else w) 0

/-! ### Selectors on the link (R167, R194) -/

/-- A kind whose code lies beyond the last is stored as the last, BREAK (R167). -/
def clampedKind (p : Nat) : EntryKind := (kindOfCode? p).getD .brk

/-- A station whose code lies beyond the last is stored as the last, B (R167). -/
def clampedStation (p : Nat) : StationId := (stationOfCode? p).getD .b

/-- A lamp state whose code lies beyond the last is stored as the last, WRAP (R167). -/
def clampedLamp (p : Nat) : LampState := (lampOfCode? p).getD .wrap

/-- A number above the last is stored as the last (R167). -/
def clampedIndex (n p : Nat) (h : 0 < n) : Fin n := ⟨min p (n - 1), by omega⟩

/-- The source of a source byte and a parameter byte: parameters are clamped, and a source that takes none disregards it
(R167). -/
def sourceOfCode? (code p : Nat) : Option Source :=
  match code with
  | 0 => some .const0
  | 1 => some (.pgmKind (clampedKind p))
  | 2 => some (.armKind (clampedKind p))
  | 3 => some .transition
  | 4 => some (.chActive (clampedIndex 16 p (by decide)))
  | 5 => some (.chFault (clampedIndex 16 p (by decide)))
  | 6 => some (.lamp (clampedStation (p / 16)) (clampedLamp (p % 16)))
  | 7 => some .safe
  | 8 => some (.gpi (clampedIndex 8 p (by decide)))
  | 9 => some .over
  | 10 => some .under
  | 11 => some .refLost
  | 12 => some (.trig (clampedIndex 8 p (by decide)))
  | _ => none

/-- A selector from its 16 bits, the source byte first: all ones leaves it, a code that names no source is refused
(R167). -/
def selectorFrom (old : Source) (h : Half) : Except Reason Source :=
  if absent16 h then .ok old
  else orElse .badArgument (sourceOfCode? (h.extractLsb' 0 8).toNat (h.extractLsb' 8 8).toNat)

/-- The two bytes of a selector as stored (R194). -/
def Source.bytes (x : Source) : List Byte := [w8 x.code, w8 x.parameter]

/-- The bytes of an output's three selectors and F (R167, R168). -/
def TallyOutput.bytes (o : TallyOutput) : List Byte := o.a.bytes ++ o.b.bytes ++ o.c.bytes ++ [o.f]

/-- SET TALLY: the under threshold in the operand; A and B in the first data frame, C and F in the second (R167, log entry
12). The reply carries the settings as stored and the output's level after the command. -/
def setTally (k : Command) (s : State) : Answer := do
  let i ← needOutput k.selector
  let old := s.tally.outputs[i]
  let a ← selectorFrom old.a (lowHalf (k.word 0))
  let b ← selectorFrom old.b (highHalf (k.word 0))
  let c ← selectorFrom old.c (lowHalf (k.word 1))
  let o : TallyOutput := { a := a, b := b, c := c, f := byteOf (k.word 1) 2 }
  let threshold := keepOr16 s.tally.threshold k.operand (clampTo 30000)
  let t := { s with tally := { s.tally with outputs := s.tally.outputs.set i o, threshold := threshold } }
  return (t, pack [] [w16 threshold] (o.bytes ++ [wBool (o.level t)]))

/-- SET TALLY (R167). -/
def execSetTally (n : Fin 4) (f : Word) (s : State) : Host.Outcome State Fault Refusal := onCommand 0x70 n f setTally s

/-- The reply to READ TALLY (R168). -/
def readTallyReply (i : Fin 24) (s : State) : List Word :=
  let o := s.tally.outputs[i]
  pack [s.tallyLevels] [w16 s.tally.threshold]
    (o.bytes ++ [wBool (o.a.truth s), wBool (o.b.truth s), wBool (o.c.truth s), w8 (o.index s), wBool (o.level s)])

/-- READ TALLY (R168). -/
def readTally (k : Command) (s : State) : Answer := do
  let i ← needOutput k.selector
  return (s, readTallyReply i s)

/-- READ TALLY (R168). -/
def execReadTally (n : Fin 4) (f : Word) (s : State) : Host.Outcome State Fault Refusal := onCommand 0x71 n f readTally s

end Sys2Proof.Machine
end

