-- ==== Sys2Proof/Machine/TimingCommands.lean ====
section
/-! DEFINITION. The timing engine's commands: READ TIMING, READ SEGMENT and SET REPORTING (R90 to R92). -/

namespace Sys2Proof.Machine

/-- The reply to READ TIMING, frame by frame (R90, R193): status TIMED 0 or ABSENT 1. -/
def readTimingReply (id : Nat) (s : State) : List Word :=
  let t := s.timing.published
  let r := s.timing.record? id
  let field (g : TimingRecord → Nat) : Word := opt32 (r.map fun x => w32 (g x))
  let byte (g : TimingRecord → Nat) : Byte := opt8 (r.map fun x => w8 (g x))
  [ field fun x => x.effective, field fun x => x.margin, field fun x => x.trim, field fun x => x.advised,
    field fun x => x.start, opt32 (r.map fun x => labelWord t.mode x.start), t.generation, t.source,
    frameOfBytes (if r.isSome then 0 else 1) (byte fun x => x.segment) (opt8 (r.map fun x => wBool x.isPost))
      (byte fun x => x.day),
    frameOfBytes (w8 t.mode.code) (wBool s.timingPending) 0 0 ]

/-- READ TIMING (R90). -/
def readTiming (k : Command) (s : State) : Answer := do
  let e ← needEntry s k.selector
  return (s, readTimingReply e.id s)

/-- READ TIMING (R90). -/
def execReadTiming (n : Fin 4) (f : Word) (s : State) : Host.Outcome State Fault Refusal :=
  onCommand 0x30 n f readTiming s

/-- The reply to READ SEGMENT (R91): CLOSED 0, OPEN 1 (log entry 6). -/
def readSegmentReply (g : Segment) (s : State) : List Word :=
  let t := s.timing.published
  let c := g.closed
  let nat (h : SegmentFigures → Nat) : Word := opt32 (c.map fun x => w32 (h x))
  let int (h : SegmentFigures → Int) : Word := opt32 (c.map fun x => signed32 (h x))
  pack
    [ w32 g.openDemand, w32 g.start, labelWord t.mode g.start, opt32 (c.map fun x => labelWord t.mode x.label),
      int fun x => x.distance, nat fun x => x.demand, int fun x => x.slack, nat fun x => x.fill, nat fun x => x.need,
      nat fun x => x.margin, nat fun x => x.trimTotal, nat fun x => x.residual, nat fun x => x.postStart,
      opt32 (c.map fun x => labelWord t.mode x.postStart), t.generation, t.source ] []
    [ w8 g.number, if c.isSome then 0 else 1, w8 g.firstMember, w8 g.members, w8 g.opener, w8 g.startDay,
      opt8 (c.map fun x => w8 x.post), opt8 (c.map fun x => w8 x.postDay), w8 t.mode.code, wBool s.timingPending ]

/-- READ SEGMENT (R91). -/
def readSegment (k : Command) (s : State) : Answer := do
  let g ← orElse .badArgument s.timing.published.segments[k.selector]?
  return (s, readSegmentReply g s)

/-- READ SEGMENT (R91). -/
def execReadSegment (n : Fin 4) (f : Word) (s : State) : Host.Outcome State Fault Refusal :=
  onCommand 0x31 n f readSegment s

/-- SET REPORTING (R92): the threshold in bits 16-23 and the hold-off in bits 24-31 (R190). -/
def setReporting (k : Command) (s : State) : Answer :=
  let t := { s.timing with
    threshold := keepOr8 s.timing.threshold k.opLow (clampTo 250), holdOff := keepOr8 s.timing.holdOff k.opHigh (clampTo 250) }
  .ok ({ s with timing := t }, pack [] [] [w8 t.threshold, w8 t.holdOff])

/-- SET REPORTING (R92). -/
def execSetReporting (n : Fin 4) (f : Word) (s : State) : Host.Outcome State Fault Refusal :=
  onCommand 0x32 n f setReporting s

end Sys2Proof.Machine
end

