-- ==== Sys2Proof/Machine/TriggerCommands.lean ====
section
/-! DEFINITION. The trigger units' commands: SET TRIGGER, ENABLE TRIGGER, DISABLE TRIGGER, SET CHAIN and READ TRIGGER
(R149 to R151, R161, R195). -/

namespace Sys2Proof.Machine

/-! ### Reading a condition and an action from their frames (R149, R195) -/

/-- The reason R27 puts first: BAD_ID, then BAD_ARGUMENT, then BAD_TIME (R149). -/
def Reason.rank : Reason → Nat
  | .badId => 0
  | .badArgument => 1
  | _ => 2

/-- Two checked parts: both, or the reason that comes first. -/
def bothOk {α β : Type} (x : Except Reason α) (y : Except Reason β) : Except Reason (α × β) :=
  match x, y with
  | .ok a, .ok b => .ok (a, b)
  | .error r, .ok _ => .error r
  | .ok _, .error q => .error q
  | .error r, .error q => .error (if r.rank ≤ q.rank then r else q)

/-- The edge code of a GPI condition: RISING 0, FALLING 1 (R195). -/
def risingOf? : Nat → Option Bool
  | 0 => some true
  | 1 => some false
  | _ => none

/-- The checked parts of a condition, by its kind code: `p` is the first frame and `q` the second parameter (R149, R195).
DESIGN CHOICE (log entry 40): bits in which R195 says 0 and the command has another value (the first frame of NONE, the second
parameter of a kind without one, the bits above an id's or an input's byte) are disregarded. -/
def conditionOfCode (s : State) (kind : Nat) (p : Word) (q : Nat) : Except Reason Condition :=
  match kind with
  | 0 => .ok .never
  | 1 => (bothOk (orElse .badTime (checkLabel s.clock.mode p)) (orElse .badArgument (timeMaskOfCode? q))).map
      fun r => .time r.1 r.2
  | 2 => (needEntry s (byteNat p 0)).map fun e => .entryOnAir e.id
  | 3 => (needEntry s (byteNat p 0)).map fun e => .entryDone e.id
  | 4 => .ok (.remaining (clampTo Config.maxDuration p.toNat))
  | 5 => (bothOk (orElse .badId (index? 8 (byteNat p 0))) (orElse .badArgument (risingOf? q))).map fun r => .gpi r.1 r.2
  | 6 => (needStation q).map fun st => .markPassed st (clampTo Config.maxScroll p.toNat)
  | _ => .error .badArgument

/-- The checked parts of an action, by its kind code and its frame (R149, R195).
DESIGN CHOICE (log entry 40): bits in which R195 says 0 and the command has another value (the frame of TAKE, NOTICE and NONE,
the bits above an id's byte or a lamp state's) are disregarded. -/
def actionOfCode (s : State) (kind : Nat) (p : Word) : Except Reason Action :=
  match kind with
  | 0 => .ok .nothing
  | 1 => (bothOk (needChannel (byteNat p 0)) (orElse .badArgument (chanActionOfCode? (byteNat p 1)))).map
      fun r => .fire r.1 r.2 (highHalf p)
  | 2 => .ok .take
  | 3 => (needEntry s (byteNat p 0)).map fun e => .arm e.id
  | 4 => (bothOk (needStation (byteNat p 0)) (orElse .badArgument (lampOfCode? (byteNat p 1)))).map fun r => .lamp r.1 r.2
  | 5 => .ok .notify
  | _ => .error .badArgument

/-! ### A unit's three frames (R195) -/

/-- The condition's main parameter. -/
def Condition.mainWord : Condition → Word
  | .never => 0
  | .time label _ => label.toWord
  | .entryOnAir id => w32 id
  | .entryDone id => w32 id
  | .remaining n => w32 n
  | .gpi i _ => w32 i.val
  | .markPassed _ p => w32 p

/-- The condition's second parameter. -/
def Condition.second : Condition → Nat
  | .time _ mask => mask.code
  | .gpi _ rising => if rising then 0 else 1
  | .markPassed st _ => stationCode st
  | _ => 0

/-- The action's parameters. -/
def Action.word : Action → Word
  | .fire c a arg => arg ++ w8 a.code ++ w8 c.val
  | .arm id => w32 id
  | .lamp st l => frameOfBytes (w8 (stationCode st)) (w8 l.code) 0 0
  | _ => 0

/-- The three frames of a unit as stored (R195). -/
def TriggerUnit.frames (x : TriggerUnit) : List Word :=
  [ x.condition.mainWord,
    frameOfBytes (w8 x.condition.second) (w8 x.mode.code) (w8 x.condition.code) (w8 x.action.code),
    x.action.word ]

/-! ### Commands -/

/-- A unit as SET TRIGGER leaves it (R149). -/
def programmedUnit (s : State) (c : Condition) (a : Action) (m : TriggerMode) : TriggerUnit :=
  { condition := c, action := a, mode := m, enable := false, latch := false, dropped := false,
    timeMemory := timeComparison s.clock.mode s.clock.tod c, spent := false }

/-- SET TRIGGER (R149). DESIGN CHOICE (log entry 40): the operand, which R195 says is 0, is disregarded where it is not. -/
def setTrigger (k : Command) (s : State) : Answer := do
  let u ← needUnit k.selector
  let second := k.word 1
  let parts ← bothOk
    (bothOk (conditionOfCode s (byteNat second 2) (k.word 0) (byteNat second 0))
      (actionOfCode s (byteNat second 3) (k.word 2)))
    (orElse .badArgument (triggerModeOfCode? (byteNat second 1)))
  let x := programmedUnit s parts.1.1 parts.1.2 parts.2
  return (resetSequence (groupOf u) (putUnit u x s), x.frames)

/-- SET TRIGGER (R149). -/
def execSetTrigger (n : Fin 4) (f : Word) (s : State) : Host.Outcome State Fault Refusal :=
  onCommand 0x60 n f setTrigger s

/-- A unit enabled: where it was off, its time memory is worked against the frame in progress (R150). -/
def TriggerUnit.enabled (m : Mode) (tod : Nat) (x : TriggerUnit) : TriggerUnit :=
  if x.enable then x else { x with enable := true, timeMemory := timeComparison m tod x.condition }

/-- ENABLE TRIGGER (R150). -/
def enableTrigger (k : Command) (s : State) : Answer := do
  let u ← needUnit k.selector
  let x := s.triggers.units[u]
  require (!x.dropped) .state
  return (putUnit u (x.enabled s.clock.mode s.clock.tod) s, pack [] [] [wBool x.enable, wBool true])

/-- ENABLE TRIGGER (R150). -/
def execEnableTrigger (n : Fin 4) (f : Word) (s : State) : Host.Outcome State Fault Refusal :=
  onCommand 0x61 n f enableTrigger s

/-- DISABLE TRIGGER (R150). -/
def disableTrigger (k : Command) (s : State) : Answer := do
  let u ← needUnit k.selector
  let x := s.triggers.units[u]
  return (putUnit u { x with enable := false } s, pack [] [] [wBool x.enable, wBool false])

/-- DISABLE TRIGGER (R150). -/
def execDisableTrigger (n : Fin 4) (f : Word) (s : State) : Host.Outcome State Fault Refusal :=
  onCommand 0x62 n f disableTrigger s

/-- A group's chain length stored, its sequence reset, and every latch of its units clear (R151). -/
def chainSet (g : Fin 2) (length : Nat) (s : State) : State :=
  let groups := s.triggers.groups.set g { s.triggers.groups[g] with chain := length }
  let t := resetSequence g { s with triggers := { s.triggers with groups := groups } }
  { t with triggers := { t.triggers with
      units := mapTable (fun u x => if groupOf u = g then { x with latch := false } else x) t.triggers.units } }

/-- SET CHAIN (R151). -/
def setChain (k : Command) (s : State) : Answer := do
  let g ← orElse .badId (index? 2 k.selector)
  require (decide (1 ≤ k.op) && decide (k.op ≤ 4)) .badArgument
  return (chainSet g k.op s, pack [] [] [w8 (s.triggers.groups[g]).chain, w8 k.op])

/-- SET CHAIN (R151). -/
def execSetChain (n : Fin 4) (f : Word) (s : State) : Host.Outcome State Fault Refusal := onCommand 0x63 n f setChain s

/-- A unit's place: its stage number, or 4 for ALONE (R161, R195). -/
def placeCode (chain : Nat) (u : Fin 8) : Nat := (stageIn chain u).getD 4

/-- The reply to READ TRIGGER (R161, R195). -/
def readTriggerReply (u : Fin 8) (s : State) : List Word :=
  let x := s.triggers.units[u]
  let g := s.triggers.group u
  x.frames ++ pack [] []
    [ wBool x.enable, wBool x.dropped, wBool x.latch, wBool x.timeMemory, wBool x.spent, w8 g.chain, w8 g.stage,
      w8 (placeCode g.chain u), wBool (isFinal u) ]

/-- READ TRIGGER (R161). -/
def readTrigger (k : Command) (s : State) : Answer := do
  let u ← needUnit k.selector
  return (s, readTriggerReply u s)

/-- READ TRIGGER (R161). -/
def execReadTrigger (n : Fin 4) (f : Word) (s : State) : Host.Outcome State Fault Refusal :=
  onCommand 0x64 n f readTrigger s

end Sys2Proof.Machine
end

