-- ==== Sys2Proof/Machine/Dispatch.lean ====
section
/-! DEFINITION. Dispatch: each command or event of the table is given its meaning. -/

namespace Sys2Proof.Machine

def exec (i : Instr) (s : State) : Host.Outcome State Fault Refusal :=
  match i with
  | .powerOn l => Sys2Proof.Machine.execPowerOn l s
  | .rstAssert => Sys2Proof.Machine.execRstAssert s
  | .rstRelease l => Sys2Proof.Machine.execRstRelease l s
  | .refinPulse dt e => Sys2Proof.Machine.execRefinPulse dt e s
  | .refLoss e => Sys2Proof.Machine.execRefLoss e s
  | .timebaseEdge e => Sys2Proof.Machine.execTimebaseEdge e s
  | .timingPublish => Sys2Proof.Machine.execTimingPublish s
  | .transitionComplete => Sys2Proof.Machine.execTransitionComplete s
  | .scheduleRelease c => Sys2Proof.Machine.execScheduleRelease c s
  | .firstCheck c => Sys2Proof.Machine.execFirstCheck c s
  | .holdLimitReached c => Sys2Proof.Machine.execHoldLimitReached c s
  | .pulseEnd c => Sys2Proof.Machine.execPulseEnd c s
  | .panicFall => Sys2Proof.Machine.execPanicFall s
  | .gpiEdge line rising => Sys2Proof.Machine.execGpiEdge line rising s
  | .encoderEdge st line rising => Sys2Proof.Machine.execEncoderEdge st line rising s
  | .readyPress st => Sys2Proof.Machine.execReadyPress st s
  | .linkResync n => Sys2Proof.Machine.execLinkResync n s
  | .unknownCommand n f => Sys2Proof.Machine.execUnknownCommand n f s
  | .nop n f => Sys2Proof.Machine.execNop n f s
  | .readClock n f => Sys2Proof.Machine.execReadClock n f s
  | .setTime n f => Sys2Proof.Machine.execSetTime n f s
  | .runClock n f => Sys2Proof.Machine.execRunClock n f s
  | .stopClock n f => Sys2Proof.Machine.execStopClock n f s
  | .setRate n f => Sys2Proof.Machine.execSetRate n f s
  | .newEntry n f => Sys2Proof.Machine.execNewEntry n f s
  | .deleteEntry n f => Sys2Proof.Machine.execDeleteEntry n f s
  | .moveEntry n f => Sys2Proof.Machine.execMoveEntry n f s
  | .writeField n f => Sys2Proof.Machine.execWriteField n f s
  | .readField n f => Sys2Proof.Machine.execReadField n f s
  | .setFlags n f => Sys2Proof.Machine.execSetFlags n f s
  | .clearFlags n f => Sys2Proof.Machine.execClearFlags n f s
  | .addCue n f => Sys2Proof.Machine.execAddCue n f s
  | .removeCue n f => Sys2Proof.Machine.execRemoveCue n f s
  | .readCue n f => Sys2Proof.Machine.execReadCue n f s
  | .readOrder n f => Sys2Proof.Machine.execReadOrder n f s
  | .clearRundown n f => Sys2Proof.Machine.execClearRundown n f s
  | .reportDuration n f => Sys2Proof.Machine.execReportDuration n f s
  | .arm n f => Sys2Proof.Machine.execArm n f s
  | .disarm n f => Sys2Proof.Machine.execDisarm n f s
  | .take n f => Sys2Proof.Machine.execTake n f s
  | .takeForced n f => Sys2Proof.Machine.execTakeForced n f s
  | .drop n f => Sys2Proof.Machine.execDrop n f s
  | .restore n f => Sys2Proof.Machine.execRestore n f s
  | .setFallback n f => Sys2Proof.Machine.execSetFallback n f s
  | .resume n f => Sys2Proof.Machine.execResume n f s
  | .readTakeStatus n f => Sys2Proof.Machine.execReadTakeStatus n f s
  | .readTiming n f => Sys2Proof.Machine.execReadTiming n f s
  | .readSegment n f => Sys2Proof.Machine.execReadSegment n f s
  | .setReporting n f => Sys2Proof.Machine.execSetReporting n f s
  | .readSchedule n f => Sys2Proof.Machine.execReadSchedule n f s
  | .setChannel n f => Sys2Proof.Machine.execSetChannel n f s
  | .fireNow n f => Sys2Proof.Machine.execFireNow n f s
  | .stopChannel n f => Sys2Proof.Machine.execStopChannel n f s
  | .clipEnd n f => Sys2Proof.Machine.execClipEnd n f s
  | .readChannel n f => Sys2Proof.Machine.execReadChannel n f s
  | .setStation n f => Sys2Proof.Machine.execSetStation n f s
  | .setPosition n f => Sys2Proof.Machine.execSetPosition n f s
  | .lampOverride n f => Sys2Proof.Machine.execLampOverride n f s
  | .lampRelease n f => Sys2Proof.Machine.execLampRelease n f s
  | .readStation n f => Sys2Proof.Machine.execReadStation n f s
  | .readMark n f => Sys2Proof.Machine.execReadMark n f s
  | .setTrigger n f => Sys2Proof.Machine.execSetTrigger n f s
  | .enableTrigger n f => Sys2Proof.Machine.execEnableTrigger n f s
  | .disableTrigger n f => Sys2Proof.Machine.execDisableTrigger n f s
  | .setChain n f => Sys2Proof.Machine.execSetChain n f s
  | .readTrigger n f => Sys2Proof.Machine.execReadTrigger n f s
  | .setTally n f => Sys2Proof.Machine.execSetTally n f s
  | .readTally n f => Sys2Proof.Machine.execReadTally n f s
  | .readAsRun n f => Sys2Proof.Machine.execReadAsRun n f s
  | .nextNotice n f => Sys2Proof.Machine.execNextNotice n f s
  | .repeatNotice n f => Sys2Proof.Machine.execRepeatNotice n f s
  | .noticeDone n f => Sys2Proof.Machine.execNoticeDone n f s
  | .setMask n f => Sys2Proof.Machine.execSetMask n f s
  | .setLevels n f => Sys2Proof.Machine.execSetLevels n f s
  | .readLink n f => Sys2Proof.Machine.execReadLink n f s
  | .clearLinkFlags n f => Sys2Proof.Machine.execClearLinkFlags n f s
  | .dataFrame n f => Sys2Proof.Machine.execDataFrame n f s
  | .allOnesFrameHeld n => Sys2Proof.Machine.execAllOnesFrameHeld n s

end Sys2Proof.Machine
end

