-- ==== Sys2Proof/Safety.lean ====
section
/-! DEFINITION. What counts as a sound state: the invariants the spec states of each block's state, in the terms the
statements use, and the taking of a command at a link. -/

namespace Sys2Proof.Machine

/-! ### Invariants of the blocks -/

/-- The time of day, and a pending set value, lie in 0..D−1 for the current mode (R7). -/
def Clock.sound (k : Clock) : Prop := k.tod < k.mode.day ∧ ∀ v ∈ k.setPending, v < k.mode.day

/-- The time of day of the frame that begins at an edge (R7). -/
def edgeTimeOfDay (k : Clock) : Nat :=
  match k.setPending with
  | some v => v
  | none => if k.run = .running then (if k.tod + 1 = k.mode.day then 0 else k.tod + 1) else k.tod

/-- An entry's id lies in 1..240, its durations and scroll position in their ranges, and its cue list holds at most 12
records (sections 2.1 and 4.2, R23, R24). -/
def Entry.sound (e : Entry) : Prop :=
  1 ≤ e.id ∧ e.id ≤ Config.maxEntries ∧ e.planned ≤ Config.maxDuration ∧ (∀ d ∈ e.minimum, d ≤ Config.maxDuration)
    ∧ (∀ d ∈ e.reported, d ≤ Config.maxDuration) ∧ (∀ p ∈ e.scriptStart, p ≤ Config.maxScroll)
    ∧ e.cues.length ≤ Config.maxCuesPerEntry

/-- The running order holds no id twice, its entries are sound, and at most 512 cue records are in the lists (R23, R24). -/
def Store.sound (st : Store) : Prop :=
  (st.order.map fun e => e.id).Nodup ∧ (∀ e ∈ st.order, e.sound) ∧ st.cuesUsed ≤ Config.maxCues

/-- The ids of the entries in a state. -/
def Store.idsIn (st : Store) (x : EntryState) : List Nat := (st.order.filter fun e => e.state == x).map fun e => e.id

/-- The ids the programme and outgoing slots hold. -/
def TakeControl.onAirIds (t : TakeControl) : List Nat :=
  (t.pgm.map fun p => p.id).toList ++ (t.out.map fun o => o.id).toList

/-- The armed entry is the one entry in state ARMED, and is not floated (R50). -/
def armedSlotSound (s : State) : Prop :=
  s.store.idsIn .armed = (s.tkc.armed.map fun a => a.id).toList ∧ ∀ e ∈ s.armedEntry?, e.float = false

/-- The entries ON_AIR are those of the programme and outgoing slots, which are different; while the outgoing slot holds an
entry, so does the programme slot (R49). -/
def onAirSlotsSound (s : State) : Prop :=
  (s.store.idsIn .onAir).Perm s.tkc.onAirIds ∧ (s.tkc.out.isSome → s.tkc.pgm.isSome) ∧ s.tkc.onAirIds.Nodup

/-- The transition count lies in 1..250 while the outgoing slot holds an entry, and is 1 where its completion is due; the last
transition length lies in 0..250 (R48, R60). -/
def transitionSound (s : State) : Prop :=
  s.tkc.lastLength ≤ Config.maxTransition
    ∧ ∀ o ∈ s.tkc.out, 1 ≤ o.count ∧ o.count ≤ Config.maxTransition ∧ (o.due = true → o.count = 1)

/-- The states in which a request is in flight: CUEING, HOLD and FIRED (R106). -/
def ChannelState.holdsRequest : ChannelState → Bool
  | .cueing => true
  | .hold => true
  | .fired => true
  | _ => false

/-- A request is in flight exactly in CUEING, HOLD and FIRED (R106). -/
def Channel.sound (ch : Channel) : Prop := ch.inFlight.isSome = ch.state.holdsRequest

/-- The scroll position lies in 0..1,048,575, and the list holds at most 16 marks in ascending order of position (R127,
R132). -/
def Station.sound (x : Station) : Prop :=
  x.position ≤ Config.maxScroll ∧ x.marks.length ≤ Config.maxMarks ∧ (x.marks.map fun m => m.position).Pairwise (· ≤ ·)

/-- A group's stage lies in 0..k−1, for a chain length k of 1..4 (R148). -/
def TriggerGroup.sound (g : TriggerGroup) : Prop := 1 ≤ g.chain ∧ g.chain ≤ 4 ∧ g.stage < g.chain

/-- The ring holds at most 256 records, which carry consecutive sequence numbers up to the next less one (R180). -/
def AsRun.sound (a : AsRun) : Prop :=
  a.ring.length ≤ Config.ringSize
    ∧ (a.ring.map fun r => r.sequence) = (List.range a.ring.length).map fun i => a.oldest + w32 i

/-- A queued notice stands at level 8 when it is an ALERT, and at 1..7 otherwise (R198). -/
def Queued.sound (q : Queued) : Prop := if q.notice.kind = .alert then q.level = 8 else 1 ≤ q.level ∧ q.level ≤ 7

/-- The kinds of the coalescing notices in a queue. -/
def coalescingKinds (queue : List Queued) : List NoticeKind :=
  (queue.map fun q => q.notice.kind).filter fun k => k.coalescing

/-- The queue holds at most 16 notices and at most one of each coalescing kind, the stack at most 4 masks, and the levels
and masks lie in 0..7 (R198, section 11.5). -/
def Link.sound (l : Link) : Prop :=
  l.queue.length ≤ Config.queueSize ∧ (coalescingKinds l.queue).Nodup ∧ (∀ q ∈ l.queue, q.sound)
    ∧ l.stack.length ≤ Config.stackSize ∧ l.mask ≤ 7 ∧ (∀ m ∈ l.stack, m ≤ 7) ∧ ∀ i : Fin 21, l.levels[i] ≤ 7

/-- Every link's notices, levels and masks are sound. -/
def linksSound (s : State) : Prop := ∀ n : Fin 4, (s.link n).sound

/-- Every station's counter and mark list are sound, and every position a FOLLOW jump may go to lies in range (R127,
R132). -/
def stationsSound (s : State) : Prop :=
  (∀ st : StationId, (s.station st).sound) ∧ ∀ e ∈ s.store.order, ∀ p ∈ e.scriptStart, p ≤ Config.maxScroll

/-- Every channel holds a request in flight exactly where its state says so. -/
def channelsSound (s : State) : Prop := ∀ c : Fin 16, (s.channel c).sound

/-- Every group's stage is within its chain. -/
def groupsSound (s : State) : Prop := ∀ g : Fin 2, (s.triggers.groups[g]).sound

/-! ### The command's frame at a link -/

/-- A command frame (R190). -/
def commandFrame (code sel : Byte) (op : Half) : Word := op ++ sel ++ code

/-- The command with a code is open to the role (R189, section 11.3). -/
def opens (code : Byte) (role : Role) : Bool := (commandRow? code).any fun r => r.roles.contains role

/-- The input frame f, which is not all ones, ends the command k in a link's position (R184, R187): as the whole of a command
without data frames, as the last data frame of a command, or as the frame after a held all-ones frame, which is then data
and may itself be the last. -/
def Link.endsWith (l : Link) (k : Command) (f : Word) : Bool :=
  match l.receiver with
  | .command => decide (commandOf f = k) && k.code != 0 && dataFramesOf k.code == 0
  | .data j owed =>
    if l.held then
      (owed == 1 && decide (k = { j with data := j.data ++ [allOnesFrame] }))
        || (owed == 2 && decide (k = { j with data := j.data ++ [allOnesFrame, f] }))
    else owed == 1 && decide (k = { j with data := j.data ++ [f] })

/-- The command k is taken at the input frame f of link n: RST is released, the frame is not disregarded and not all ones, it
ends k, and k is open to the link's role (R184, R187, R189). -/
def State.completes (s : State) (n : Fin 4) (k : Command) (f : Word) : Bool :=
  !s.rst && !(s.link n).disregard && f != allOnesFrame && (s.link n).endsWith k f && opens k.code (s.link n).role

/-- A frame that is not all ones has come to the link: a frame held in command position is discarded with FRAMING, one held in
data position is used up (R187). -/
def Link.unheld (l : Link) : Link :=
  match l.receiver with
  | .command => if l.held then { l with held := false, flags := setFlag l.flags framingBit } else l
  | .data .. => { l with held := false }

/-- The state a block acts on when link n takes a command: no frame is held, the link is back in command position, and a
command's first frame has cut a reply in progress (R184, R186, R187). -/
def State.begun (s : State) (n : Fin 4) : State :=
  match (s.link n).receiver with
  | .command => putLink n (s.link n).unheld.cutReply s
  | .data .. => putLink n { (s.link n).unheld with receiver := .command } s

/-- The frame ends a command whose last data frame was the held one, so that the frame itself is yet to be classified and the
reply starts after it (R187). -/
def Link.late (l : Link) : Bool :=
  match l.receiver with
  | .command => false
  | .data _ owed => l.held && owed == 1

/-- A link with a reply, whose first frame goes out next, or after the frame that is yet to be classified (R185, R187). -/
def Link.starts (l : Link) (late : Bool) (first : OutFrame) (rest : List OutFrame) : Link :=
  if late then { l with reply := first :: rest } else { l with out := first, reply := rest, frames := l.frames + 1 }

/-- The state t with link n, which stood as in s, starting the reply of an accepted command with these data frames (R185). -/
def State.answered (s : State) (n : Fin 4) (code : Byte) (data : List Word) (t : State) : State :=
  putLink n ((t.link n).starts (s.link n).late { kind := .accepted, word := statusFrame 0 data.length code }
    (data.map fun w => { kind := .data, word := w })) t

/-- The state t with link n, which stood as in s, starting the reply of a refused command, its flag for the reason set (R185,
R188). -/
def State.declined (s : State) (n : Fin 4) (code : Byte) (r : Reason) (t : State) : State :=
  let l := (t.link n).starts (s.link n).late { kind := .refused, word := statusFrame r.code 0 code } []
  putLink n { l with flags := setFlag l.flags r.flagBit } t

/-- The link has taken a frame that ends the command k, whatever its role (R184, R187). -/
def State.framed (s : State) (n : Fin 4) (k : Command) (f : Word) : Bool :=
  !s.rst && !(s.link n).disregard && f != allOnesFrame && (s.link n).endsWith k f

/-- The rows of the commands of section 11.3, by their codes. -/
def rowOfCode (code : Byte) (n : Fin 4) (f : Word) : Option Instr :=
  match code.toNat with
  | 0x01 => some (.readClock n f) | 0x02 => some (.setTime n f) | 0x03 => some (.runClock n f) | 0x04 => some (.stopClock n f)
  | 0x05 => some (.setRate n f) | 0x10 => some (.newEntry n f) | 0x11 => some (.deleteEntry n f)
  | 0x12 => some (.moveEntry n f) | 0x13 => some (.writeField n f) | 0x14 => some (.readField n f)
  | 0x15 => some (.setFlags n f) | 0x16 => some (.clearFlags n f) | 0x17 => some (.addCue n f) | 0x18 => some (.removeCue n f)
  | 0x19 => some (.readCue n f) | 0x1A => some (.readOrder n f) | 0x1B => some (.clearRundown n f)
  | 0x1C => some (.reportDuration n f) | 0x20 => some (.arm n f) | 0x21 => some (.disarm n f) | 0x22 => some (.take n f)
  | 0x23 => some (.takeForced n f) | 0x24 => some (.drop n f) | 0x25 => some (.restore n f) | 0x26 => some (.setFallback n f)
  | 0x27 => some (.resume n f) | 0x28 => some (.readTakeStatus n f) | 0x30 => some (.readTiming n f)
  | 0x31 => some (.readSegment n f) | 0x32 => some (.setReporting n f) | 0x40 => some (.readSchedule n f)
  | 0x41 => some (.setChannel n f) | 0x42 => some (.fireNow n f) | 0x43 => some (.stopChannel n f) | 0x44 => some (.clipEnd n f)
  | 0x45 => some (.readChannel n f) | 0x50 => some (.setStation n f) | 0x51 => some (.setPosition n f)
  | 0x52 => some (.lampOverride n f) | 0x53 => some (.lampRelease n f) | 0x54 => some (.readStation n f)
  | 0x55 => some (.readMark n f) | 0x60 => some (.setTrigger n f) | 0x61 => some (.enableTrigger n f)
  | 0x62 => some (.disableTrigger n f) | 0x63 => some (.setChain n f) | 0x64 => some (.readTrigger n f)
  | 0x70 => some (.setTally n f) | 0x71 => some (.readTally n f) | 0x80 => some (.readAsRun n f) | 0x90 => some (.nextNotice n f)
  | 0x91 => some (.repeatNotice n f) | 0x92 => some (.noticeDone n f) | 0x93 => some (.setMask n f) | 0x94 => some (.setLevels n f)
  | 0x95 => some (.readLink n f) | 0x96 => some (.clearLinkFlags n f)
  | _ => none

/-- Every link's level of every kind of notice but one is 0, so that of the notices posted only that kind, and ALERT, can
reach a queue (R198). -/
def State.onlyLevel (s : State) (k : NoticeKind) : Prop :=
  ∀ (n : Fin 4) (j : Fin 21), j.val ≠ k.code → (s.link n).levels[j] = 0

/-- Nothing that a row begins is left half done: no request of a unit waits for a take, no event is held, and no work of an
edge's own step is owed (R70, R158). -/
def State.quiet (s : State) : Prop :=
  s.tkc.requests = [] ∧ s.triggers.holding = false ∧ s.triggers.held = [] ∧ s.sched.atEdge = false ∧ s.owed = []

/-! ### The as-run record of a request -/

/-- The record is of a request of a channel: it carries the channel, and from the request the entry and STORY_REF (R123), the cue
index (R42) and the origin TRIGGER with its unit (R161). -/
def AsRunRecord.isOf (x : AsRunRecord) (c : Fin 16) (r : Request) : Prop :=
  x.channel = some c ∧ x.entry = r.entry ∧ x.story = r.story ∧ x.cueIndex = r.cueIndex
    ∧ ∀ u : Fin 8, x.trigger = some u ↔ r.origin = .trigger u

/-! ### The rows of a frame edge -/

/-- The row, sent at s, gives a frame edge with the input e: the timebase's expiry with the reference LOST or PRESENT, and a
REFIN pulse from half a frame period after the latest edge on (R2 to R4). -/
def State.givesEdge (s : State) (e : EdgeInput) : Instr → Bool
  | .timebaseEdge x => x == e && s.clock.ref == .lost
  | .refLoss x => x == e && s.clock.ref == .present
  | .refinPulse dt x => x == e && decide (s.clock.period.framePeriod ≤ 2 * (s.clock.sinceEdge + dt))
  | _ => false

/-! ### A trigger unit by itself -/

/-- No trigger unit is enabled, so that no event makes one act. -/
def State.triggersOff (s : State) : Prop := ∀ u : Fin 8, (s.triggers.units[u]).enable = false

/-- Unit u is the one enabled unit. -/
def State.sole (s : State) (u : Fin 8) : Prop :=
  (s.triggers.units[u]).enable = true ∧ ∀ v : Fin 8, v ≠ u → (s.triggers.units[v]).enable = false

/-- Unit u is the one enabled unit, and it stands alone (R148). -/
def State.lone (s : State) (u : Fin 8) : Prop := s.sole u ∧ stageIn (s.triggers.group u).chain u = none

/-- The unit's action is no request to the take controller (R158). -/
def TriggerUnit.actsElsewhere (x : TriggerUnit) : Prop := x.action ≠ .take ∧ ∀ id, x.action ≠ .arm id

/-- A unit that stood alone and has acted: its latch is set, and a SINGLE unit is off (R156, R158). -/
def TriggerUnit.acted (x : TriggerUnit) : TriggerUnit := { x with latch := true, enable := x.mode == .repeating }

/-! ### The armed slot -/

/-- The entries after the programme entry in a running order, or all of it with the programme slot empty (R51). -/
def standingAfter (pgm : Option Nat) (order : List Entry) : List Entry :=
  match pgm with
  | none => order
  | some id => (order.dropWhile fun e => e.id != id).drop 1

/-- What auto-arm arms: the first READY, unfloated entry after the programme entry, tagged AUTO (R51). -/
def autoChoice (pgm : Option Nat) (order : List Entry) : Option Armed :=
  ((standingAfter pgm order).find? fun e => e.state == .ready && !e.float).map fun e => { id := e.id, tag := .auto }

/-- The armed slot once auto-arm has run on a running order: an empty slot is filled in NORMAL with the hold-arm latch clear
(R51). -/
def TakeControl.afterAutoArm (t : TakeControl) (order : List Entry) : Option Armed :=
  if t.armed = none ∧ t.engine = .normal ∧ t.holdArm = false then autoChoice (t.pgm.map fun p => p.id) order else t.armed

/-- The armed slot once a change of the entry `id` has left the running order as given: an empty slot runs auto-arm (R51), and
an AUTO-armed one chooses again where the changed entry, READY and unfloated, stands between the programme entry and the
armed entry (R52). -/
def TakeControl.afterChange (t : TakeControl) (id : Nat) (order : List Entry) : Option Armed :=
  match t.armed with
  | none => t.afterAutoArm order
  | some a =>
    let ahead := standingAfter (t.pgm.map fun p => p.id) order
    let before := ahead.takeWhile fun e => e.id != a.id
    if a.tag = .auto ∧ t.engine = .normal ∧ t.holdArm = false ∧ (∃ e ∈ ahead, e.id = a.id)
        ∧ ∃ e ∈ before, e.id = id ∧ e.state = .ready ∧ e.float = false
    then autoChoice (t.pgm.map fun p => p.id) order else some a

/-- A running order's entries once the armed slot has changed: the entry now in it is ARMED, and the one displaced is READY
(R50). -/
def slotStates (before after : Option Armed) (order : List Entry) : List Entry :=
  if (before.map fun a => a.id) = after.map fun a => a.id then order
  else order.map fun e =>
    if (after.map fun a => a.id) = some e.id then { e with state := .armed }
    else if (before.map fun a => a.id) = some e.id then { e with state := .ready } else e

end Sys2Proof.Machine
end

