-- ==== Sys2Proof/Certificates/Slice0/Obligations.lean ====
section
/-! DEFINITION. The statements for the provers: what the resets, the commands and the events of each block do, what they
leave as it was, and the invariants every step keeps. A statement of a link's command is about the frame at which the
command is taken (`State.completes`), on the state the command begins from (`State.begun`). Where a statement shows a reply's
frames, the codes the spec gives only by listing values, and the places it gives only by R191's order of fields, are the
model's reading of it (log entries 6 and 12). A statement of a command holds whatever stands in the bits of its frames in which
the spec places nothing, or says 0: that the part disregards them is the model's choice (log entry 40). -/

open Sys2Proof Sys2Proof.Machine

/-! ### The queue and the step -/

/-- With the command c at the front of the queue, a step is c's effect on the state with the queue's rest; with an empty
queue the part idles (the model's choice: log entry 1). -/
def Obligations.StepRunsFrontCommand : Prop :=
  (∀ (c : Instr) (rest : List Instr) (s : State),
      step { s with pending := c :: rest } = exec c { s with pending := rest })
    ∧ ∀ s : State, s.pending = [] → step s = .next s

/-- No command changes the queue of the commands that wait, and none leaves what it began half done: where no trigger request
waits, no event is held and no work of an edge's step is owed before it, so it is after it (each row is whole). -/
def Obligations.ExecKeepsTheQueue : Prop :=
  ∀ (i : Instr) (s t : State), exec i s = .next t → t.pending = s.pending ∧ (s.quiet → t.quiet)

/-! ### Resets (R1, R12, R47, R73, R95, R124, R147, R162, R169, R182, R202) -/

/-- POWER_ON gives every block its power-on values, with the sampled roles and lines. That RST is released at the end of power-on,
also where POWER_ON comes while it is asserted, is the model's choice (log entry 29). -/
def Obligations.PowerOnValues : Prop :=
  ∀ (l : Lines) (s : State), ∃ t, exec (.powerOn l) s = .next t ∧ t.rst = false ∧ t.pending = s.pending
    ∧ t.clock.frame = 0 ∧ t.clock.tod = 0 ∧ t.clock.run = .stopped ∧ t.clock.mode = .f25 ∧ t.clock.ref = .lost
    ∧ t.clock.setPending = none ∧ t.clock.runPending = none ∧ t.clock.period = .f25
    ∧ t.store.order = [] ∧ t.store.revision = 0 ∧ t.store.dirty = false
    ∧ t.tkc.armed = none ∧ t.tkc.pgm = none ∧ t.tkc.out = none ∧ t.tkc.lastLength = 0 ∧ t.tkc.holdArm = false
    ∧ t.tkc.fallback = none ∧ t.tkc.engine = .normal
    ∧ t.timing.view = none ∧ t.timing.published.generation = 0 ∧ t.timing.published.source = 0
    ∧ t.timing.published.mode = .f25 ∧ t.timing.published.pgm = none ∧ t.timing.published.records = []
    ∧ (∃ g, t.timing.published.segments = [g] ∧ g.number = 0 ∧ g.firstMember = 0 ∧ g.members = 0 ∧ g.opener = 0
        ∧ g.openDemand = 0 ∧ g.closed = none)
    ∧ t.timing.threshold = 0 ∧ t.timing.holdOff = 0 ∧ t.timing.baseline.starts = [] ∧ t.timing.baseline.slacks = []
    ∧ t.timing.lastNotice = none ∧ t.timing.suppressed = false
    ∧ (∀ i : Fin 32, t.sched.slots[i] = none) ∧ t.sched.nextLoad = 0
    ∧ (∀ c : Fin 16, (t.channel c).state = .idle ∧ (t.channel c).inFlight = none ∧ (t.channel c).waiting = none
        ∧ (t.channel c).faultLatch = false ∧ (t.channel c).cue = false
        ∧ (t.channel c).config = { mode := .pulse, width := 1, preRoll := 0, holdLimit := 0, ready := .always })
    ∧ (∀ st : StationId, t.station st =
        { position := 0, direction := .up, enables := 0, step := 1, wrapLead := 0, follow := false, interlock := false,
          marks := [], override := none, countdown := none, countRem := none, ready := false, pressIndex := none,
          pressTime := none, pa := l.pa.getLsb (stationIndex st), pb := l.pb.getLsb (stationIndex st),
          readyLine := l.ready.getLsb (stationIndex st) })
    ∧ (∀ u : Fin 8, t.triggers.units[u] =
        { condition := .never, action := .nothing, mode := .single, enable := false, latch := false, dropped := false,
          timeMemory := false, spent := false })
    ∧ (∀ g : Fin 2, (t.triggers.groups[g]).chain = 1 ∧ (t.triggers.groups[g]).stage = 0)
    ∧ (∀ o : Fin 24, t.tally.outputs[o] = { a := .const0, b := .const0, c := .const0, f := 0 } ∧ t.tallyLevel o = false)
    ∧ t.tally.threshold = 0 ∧ t.tally.gpi = l.gpi
    ∧ t.asRun.ring = [] ∧ t.asRun.next = 0
    ∧ ∀ n : Fin 4, (t.link n).role = roleOfStraps (strapsOf l n) ∧ (t.link n).flags = 0 ∧ (t.link n).mask = 0
        ∧ (t.link n).stack = [] ∧ (t.link n).queue = [] ∧ (t.link n).heldNotice = none ∧ (t.link n).receiver = .command
        ∧ ∀ k : Fin 21, (t.link n).levels[k] = 0

/-- RST_ASSERT keeps the clock but for what is pending, keeps the as-run record, and gives every other block its values after a
system reset: the store and the slots are empty, a timing pass in flight is discarded and the published set is the empty one
of generation 0, the schedule is free, and the channels, stations, trigger units, tally outputs and links stand as at
power-on, each link with its role. RST_RELEASE appends SYSTEM_RESET with the frame and time of day in progress, samples the
roles and the lines, and leaves the other blocks. Both always complete. That the as-run record is kept as it stands also where
work that the latest edge made due has not been done, and is dropped, is the model's choice (log entry 28), and so is the
mode of the empty baseline (log entry 39). -/
def Obligations.SystemReset : Prop :=
  (∀ s : State, s.rst = false → ∃ t, exec .rstAssert s = .next t ∧ t.rst = true ∧ t.pending = s.pending
    ∧ t.clock = { s.clock with setPending := none, runPending := none } ∧ t.asRun = s.asRun
    ∧ t.store.order = [] ∧ t.store.revision = 0 ∧ t.store.dirty = false
    ∧ t.tkc.armed = none ∧ t.tkc.pgm = none ∧ t.tkc.out = none ∧ t.tkc.fallback = none ∧ t.tkc.engine = .normal
    ∧ t.tkc.holdArm = false ∧ t.tkc.lastLength = 0
    ∧ t.timing.view = none ∧ t.timing.published.generation = 0 ∧ t.timing.published.source = 0
    ∧ t.timing.published.mode = s.clock.mode ∧ t.timing.published.pgm = none ∧ t.timing.published.records = []
    ∧ (∃ g, t.timing.published.segments = [g] ∧ g.number = 0 ∧ g.firstMember = 0 ∧ g.members = 0 ∧ g.opener = 0
        ∧ g.openDemand = 0 ∧ g.closed = none)
    ∧ t.timing.threshold = 0 ∧ t.timing.holdOff = 0 ∧ t.timing.baseline.starts = [] ∧ t.timing.baseline.slacks = []
    ∧ t.timing.baseline.mode = s.clock.mode ∧ t.timing.lastNotice = none ∧ t.timing.suppressed = false
    ∧ (∀ i : Fin 32, t.sched.slots[i] = none) ∧ t.sched.nextLoad = 0
    ∧ (∀ c : Fin 16, (t.channel c).state = .idle ∧ (t.channel c).inFlight = none ∧ (t.channel c).waiting = none
        ∧ (t.channel c).cue = false ∧ (t.channel c).faultLatch = false
        ∧ (t.channel c).config = { mode := .pulse, width := 1, preRoll := 0, holdLimit := 0, ready := .always })
    ∧ (∀ st : StationId, ∃ pa pb line : Bool, t.station st =
        { position := 0, direction := .up, enables := 0, step := 1, wrapLead := 0, follow := false, interlock := false,
          marks := [], override := none, countdown := none, countRem := none, ready := false, pressIndex := none,
          pressTime := none, pa := pa, pb := pb, readyLine := line })
    ∧ (∀ u : Fin 8, t.triggers.units[u] =
        { condition := .never, action := .nothing, mode := .single, enable := false, latch := false, dropped := false,
          timeMemory := false, spent := false })
    ∧ (∀ g : Fin 2, (t.triggers.groups[g]).chain = 1 ∧ (t.triggers.groups[g]).stage = 0)
    ∧ (∀ o : Fin 24, t.tally.outputs[o] = { a := .const0, b := .const0, c := .const0, f := 0 } ∧ t.tallyLevel o = false)
    ∧ t.tally.threshold = 0
    ∧ ∀ n : Fin 4, (t.link n).role = (s.link n).role ∧ (t.link n).queue = [] ∧ (t.link n).flags = 0 ∧ (t.link n).mask = 0
        ∧ (t.link n).stack = [] ∧ (t.link n).heldNotice = none ∧ (t.link n).reply = [] ∧ (t.link n).receiver = .command
        ∧ (t.link n).held = false ∧ (t.link n).disregard = false ∧ (t.link n).frames = 0
        ∧ ∀ k : Fin 21, (t.link n).levels[k] = 0)
    ∧ (∀ (l : Lines) (s : State), s.rst = true → s.asRun.ring.length ≤ 256 → ∃ t, exec (.rstRelease l) s = .next t
    ∧ t.rst = false ∧ t.clock = s.clock ∧ t.store = s.store ∧ t.tkc = s.tkc ∧ t.pending = s.pending
    ∧ t.timing = s.timing ∧ t.sched = s.sched ∧ t.channels = s.channels ∧ t.triggers = s.triggers
    ∧ t.asRun.next = s.asRun.next + 1 ∧ t.asRun.ring.length ≤ 256
    ∧ t.asRun.ring.getLast? = some
        { sequence := s.asRun.next, frame := s.clock.frame, tod := s.clock.tod, mode := s.clock.mode, kind := .systemReset,
          entry := none, story := none, channel := none, cueIndex := none, trigger := none, value := 0 }
    ∧ t.tally.gpi = l.gpi
    ∧ (∀ st : StationId, (t.station st).pa = l.pa.getLsb (stationIndex st)
        ∧ (t.station st).pb = l.pb.getLsb (stationIndex st) ∧ (t.station st).readyLine = l.ready.getLsb (stationIndex st))
    ∧ ∀ n : Fin 4, (t.link n).role = roleOfStraps (strapsOf l n))

/-! ### The programme clock (R2 to R13) -/

/-- The three rows that give a frame edge advance the clock by one frame: the index counts, the time of day and the run
state follow R7, both pending items are cleared, the timebase restarts, and the reference takes its state. The queue and
the tally settings are left as they were. That a pulse gives an edge from half a frame period on, measured in the ticks since
the edge by the period of the mode in force at the latest edge, is the model's form of R4 (log entry 16). With RST released,
and no other kind of notice at a level, the edge queues CLOCK_TICK exactly where the hh:mm:ss parts of the labels of the
two frames differ (R18). Each TIME unit's memory takes the comparison with the new time of day (R152), and both stations
show the countdown of the programme entry they are named by (R143). A lone TIME unit is met where its comparison is true and
its memory false, a lone REMAINING unit where the live remaining time becomes its value and its spent flag is clear (R152,
R154); this is stated where no entry has an automatic post, so that no take falls at the edge. -/
def Obligations.FrameEdgeAdvancesTheClock : Prop :=
  ∀ (e : EdgeInput) (s : State), s.clock.sound →
    let next (r : RefState) : Clock :=
      { s.clock with frame := s.clock.frame + 1, tod := edgeTimeOfDay s.clock, run := s.clock.runPending.getD s.clock.run,
                     setPending := none, runPending := none, ref := r, period := s.clock.mode, sinceEdge := 0,
                     sinceRestart := 0 }
    let old := labelOf s.clock.mode s.clock.tod
    let new := labelOf s.clock.mode (edgeTimeOfDay s.clock)
    let ticks (t : State) : Prop := s.onlyLevel .clockTick → ∀ n : Fin 4, (t.link n).queue =
      (if old.hh = new.hh ∧ old.mm = new.mm ∧ old.ss = new.ss then s.link n
       else (s.link n).queueNotice (.clockTick (edgeTimeOfDay s.clock) new.toWord (s.clock.frame + 1)
         (decide (old.hh ≠ new.hh ∨ old.mm ≠ new.mm)))).queue
    let inWindow (label : Label) (mask : TimeMask) : Prop :=
      new.hh = label.hh ∧ (mask ≠ .hours → new.mm = label.mm) ∧ (mask = .full ∨ mask = .seconds → new.ss = label.ss)
        ∧ (mask = .full → new.ff = label.ff)
    let remembers (t : State) : Prop := ∀ (u : Fin 8) (label : Label) (mask : TimeMask),
      (s.triggers.units[u]).condition = .time label mask → ((t.triggers.units[u]).timeMemory = true ↔ inWindow label mask)
    let counts (t : State) : Prop := s.store.sound → armedSlotSound s → onAirSlotsSound s → ∀ st : StationId,
      (t.station st).countdown =
        if (t.pgmEntry?.bind fun x => x.station) = some st then t.liveRemaining.map fun r =>
          let f : Int := if t.clock.mode = .f25 then 25 else 30
          max (-9999) (min 9999 (if 0 < r then (r + f - 1) / f else -((-r) / f)))
        else none
    let meets (t : State) : Prop := s.quiet → s.store.sound → onAirSlotsSound s →
      (∀ x ∈ s.store.order, x.autoPost = false) → ∀ u : Fin 8, s.lone u →
      let x := s.triggers.units[u]
      let y := t.triggers.units[u]
      x.actsElsewhere →
      (∀ label mask, x.condition = .time label mask →
        (inWindow label mask → x.timeMemory = false → y = { x.acted with timeMemory := true })
        ∧ (¬(inWindow label mask ∧ x.timeMemory = false) → y = { x with timeMemory := y.timeMemory }))
      ∧ ∀ m : Nat, x.condition = .remaining m →
        let met := t.liveRemaining = some (m : Int) ∧ s.triggers.lastRemaining ≠ some (m : Int) ∧ x.spent = false
        (met → y = { x.acted with spent := true, timeMemory := false }) ∧ (¬met → y = { x with timeMemory := false })
    let edge (row : Instr) (r : RefState) : Prop := ∃ t, exec row s = .next t ∧ t.clock = next r ∧ t.tally = s.tally
      ∧ t.pending = s.pending ∧ (s.rst = false → ticks t ∧ remembers t ∧ counts t ∧ meets t)
    (s.clock.ref = .lost → edge (.timebaseEdge e) .lost) ∧ (s.clock.ref = .present → edge (.refLoss e) .lost)
      ∧ ∀ dt : Nat, s.clock.period.framePeriod ≤ 2 * (s.clock.sinceEdge + dt) → edge (.refinPulse dt e) .present

/-- A REFIN pulse within half a frame period of the latest edge gives no edge: with the reference PRESENT it changes only
the time since the edge, and with the reference LOST it restarts the timebase and returns the reference, with its
notice. That the half period is the one of the mode in force at the latest edge, and that the pulse carries the time, in
ticks, is the model's choice (log entry 16). Before the first frame edge after power-on there is no latest edge, and that the
pulse is then measured from the end of power-on is the model's choice (log entry 37). -/
def Obligations.EarlyPulseGivesNoEdge : Prop :=
  ∀ (dt : Nat) (e : EdgeInput) (s : State), 2 * (s.clock.sinceEdge + dt) < s.clock.period.framePeriod →
    (s.clock.ref = .present →
      exec (.refinPulse dt e) s = .next { s with clock := { s.clock with
        sinceEdge := s.clock.sinceEdge + dt, sinceRestart := s.clock.sinceRestart + dt } })
      ∧ (s.clock.ref = .lost →
        exec (.refinPulse dt e) s = .next (post (.refState .present s.clock.frame) { s with clock := { s.clock with
          sinceEdge := s.clock.sinceEdge + dt, sinceRestart := 0, ref := .present } }))

/-- The frame index is written by frame edges alone: at any other row but POWER_ON it is left as it was, and an edge adds
one. The internal timebase's rows give an edge from every state: TIMEBASE_EDGE with the reference LOST, and REF_LOSS with it
PRESENT, which makes it LOST. While RST is asserted an edge changes the clock and the values handed over at the edge, and
nothing else. -/
def Obligations.OnlyEdgesMoveTheFrameIndex : Prop :=
  let isEdge (i : Instr) : Prop := ∃ e, i = .timebaseEdge e ∨ i = .refLoss e ∨ ∃ dt, i = .refinPulse dt e
  (∀ (i : Instr) (s t : State), exec i s = .next t → t.clock.frame ≠ s.clock.frame →
      (∃ l, i = .powerOn l ∧ t.clock.frame = 0) ∨ (t.clock.frame = s.clock.frame + 1 ∧ isEdge i))
    ∧ (∀ (e : EdgeInput) (s : State),
        let edge (row : Instr) : Prop := ∃ t, exec row s = .next t ∧ t.clock.frame = s.clock.frame + 1 ∧ t.clock.ref = .lost
          ∧ t.clock.run = s.clock.runPending.getD s.clock.run ∧ t.clock.runPending = none ∧ t.clock.setPending = none
        (s.clock.ref = .present → edge (.refLoss e)) ∧ (s.clock.ref = .lost → edge (.timebaseEdge e)))
    ∧ ∀ (i : Instr) (s t : State), s.rst = true → isEdge i → exec i s = .next t →
        t = { s with clock := t.clock, edge := t.edge }

/-- SET TIME stores a label in range, after promotion, as the pending set value, and refuses any other with BAD_TIME. -/
def Obligations.SetTime : Prop :=
  ∀ (n : Fin 4) (k : Command) (f w : Word) (s : State), s.completes n k f = true → k.code = 0x02 → k.data = [w] →
    let l := labelOfWord w
    let m := s.clock.mode
    let p := if labelMissing m l then { l with ff := 2 } else l
    exec (.setTime n f) s = .next (if l.hh < 24 ∧ l.mm < 60 ∧ l.ss < 60 ∧ l.ff < m.rate
      then s.answered n 0x02 [p.toWord] { s.begun n with clock := { s.clock with setPending := some (countOf m p) } }
      else s.declined n 0x02 .badTime (s.begun n))

/-- READ CLOCK replies with the six frames of R11's values. RUN CLOCK and STOP CLOCK replace the pending run change with their
own. None changes anything else but its link. -/
def Obligations.ReadRunAndStopClock : Prop :=
  ∀ (n : Fin 4) (k : Command) (f : Word) (s : State), s.completes n k f = true →
    (k.code = 0x01 →
      exec (.readClock n f) s = .next (s.answered n 0x01
        [ s.clock.frame, w32 s.clock.tod, labelWord s.clock.mode s.clock.tod, w32 s.clock.mode.day,
          (match s.clock.setPending with
            | some v => labelWord s.clock.mode v
            | none => BitVec.allOnes 32),
          w8 s.clock.ref.code
            ++ (wBool s.clock.setPending.isSome ||| (wBool (s.clock.runPending == some .running) <<< 1)
                ||| (wBool (s.clock.runPending == some .stopped) <<< 2))
            ++ w8 s.clock.run.code ++ w8 s.clock.mode.code ]
        (s.begun n)))
      ∧ (k.code = 0x03 → exec (.runClock n f) s =
        .next (s.answered n 0x03 [] { s.begun n with clock := { s.clock with runPending := some .running } }))
      ∧ (k.code = 0x04 → exec (.stopClock n f) s =
        .next (s.answered n 0x04 [] { s.begun n with clock := { s.clock with runPending := some .stopped } }))

/-- SET RATE is refused with BAD_ARGUMENT for a code that names no mode, ahead of any other check (the model's choice: log
entry 30), and with STATE unless the clock is STOPPED with no RUN pending; the mode in force changes nothing; another mode
converts the time of day, a pending set value, and every entry's HARD_POST and TAKE_TIME, the
stamps of the ready records and the labels of the TIME conditions by label. -/
def Obligations.SetRate : Prop :=
  ∀ (n : Fin 4) (k : Command) (f : Word) (s : State), s.completes n k f = true → k.code = 0x05 →
    (modeOfCode? k.sel.toNat = none → exec (.setRate n f) s = .next (s.declined n 0x05 .badArgument (s.begun n)))
      ∧ ∀ m : Mode, modeOfCode? k.sel.toNat = some m →
        (s.clock.run = .running ∨ s.clock.runPending = some .running →
          exec (.setRate n f) s = .next (s.declined n 0x05 .state (s.begun n)))
        ∧ (s.clock.run = .stopped ∧ s.clock.runPending ≠ some .running → m = s.clock.mode →
          exec (.setRate n f) s = .next (s.answered n 0x05 [labelWord m s.clock.tod] (s.begun n)))
        ∧ (s.clock.run = .stopped ∧ s.clock.runPending ≠ some .running → m ≠ s.clock.mode →
          let adjust (l : Label) : Label := promote m (if l.ff < m.rate then l else { l with ff := m.rate - 1 })
          let convert (c : Nat) : Nat := countOf m (adjust (labelOf s.clock.mode c))
          ∃ t, exec (.setRate n f) s = .next (s.answered n 0x05 [labelWord m t.clock.tod] t)
            ∧ t.clock = { s.clock with mode := m, tod := convert s.clock.tod, setPending := s.clock.setPending.map convert }
            ∧ t.store = { s.store with order := s.store.order.map fun e =>
                { e with hardPost := e.hardPost.map convert, takeTime := e.takeTime.map convert } }
            ∧ (∀ st : StationId, (t.station st).pressTime = (s.station st).pressTime.map convert)
            ∧ (∀ (u : Fin 8) (l : Label) (mask : TimeMask), (s.triggers.units[u]).condition = .time l mask →
                (t.triggers.units[u]).condition = .time (adjust l) mask)
            ∧ t = { s.begun n with clock := t.clock, store := t.store, stations := t.stations, triggers := t.triggers,
                                    links := t.links })

/-! ### Timecode (R14 to R17) -/

/-- R15: the written label, the count read back, and that they are exact inverses, in F25 and F30. -/
def Obligations.WholeFrameLabels : Prop :=
  ∀ m : Mode, m ≠ .df2997 →
    (∀ n, n < m.day →
      labelOf m n = { hh := n / m.rate / 3600, mm := n / m.rate / 60 % 60, ss := n / m.rate % 60, ff := n % m.rate }
        ∧ countOf m (labelOf m n) = n)
      ∧ (∀ l : Label, l.hh < 24 → l.mm < 60 → l.ss < 60 → l.ff < m.rate →
        countOf m l = ((60 * l.hh + l.mm) * 60 + l.ss) * m.rate + l.ff ∧ countOf m l < m.day ∧ labelOf m (countOf m l) = l)
      ∧ labelOf .f25 987000 = { hh := 10, mm := 58, ss := 0, ff := 0 }
      ∧ labelOf .f30 1000000 = { hh := 9, mm := 15, ss := 33, ff := 10 }

/-- R16: the five steps by which a count is written as a drop-frame label, and that no label so written, and none that
promotion gives, is one that does not exist. -/
def Obligations.DropFrameLabels : Prop :=
  (∀ n, n < 2589408 →
    let t := n / 17982
    let r := n % 17982
    (r < 1800 → labelOf .df2997 n = { hh := 10 * t / 60, mm := 10 * t % 60, ss := r / 30, ff := r % 30 })
      ∧ (1800 ≤ r →
        let m := 1 + (r - 1800) / 1798
        let l := 2 + (r - 1800) % 1798
        labelOf .df2997 n = { hh := (10 * t + m) / 60, mm := (10 * t + m) % 60, ss := l / 30, ff := l % 30 })
      ∧ ¬((labelOf .df2997 n).ss = 0 ∧ (labelOf .df2997 n).ff < 2
          ∧ (60 * (labelOf .df2997 n).hh + (labelOf .df2997 n).mm) % 10 ≠ 0))
    ∧ ∀ l : Label, labelMissing .df2997 (promote .df2997 l) = false

/-- The count a drop-frame label is read back as, and that it and the writing of labels are exact inverses. -/
def Obligations.DropFrameCounts : Prop :=
  (∀ l : Label,
    let m := 60 * l.hh + l.mm
    let x := 30 * l.ss + l.ff
    (m % 10 = 0 → countOf .df2997 l = 17982 * (m / 10) + x)
      ∧ (m % 10 ≠ 0 → countOf .df2997 l = 17982 * (m / 10) + 1800 + 1798 * (m % 10 - 1) + (x - 2)))
    ∧ (∀ n, n < 2589408 → countOf .df2997 (labelOf .df2997 n) = n)
    ∧ ∀ l : Label, l.hh < 24 → l.mm < 60 → l.ss < 60 → l.ff < 30 → labelMissing .df2997 l = false →
        countOf .df2997 l < 2589408 ∧ labelOf .df2997 (countOf .df2997 l) = l

/-- Every step keeps the time of day, and a pending set value, in 0..D−1 of the mode in force. -/
def Obligations.StepKeepsTimeOfDayInRange : Prop :=
  ∀ s t : State, s.clock.sound → step s = .next t → t.clock.sound

/-! ### The rundown store (R19 to R46) -/

/-- NEW ENTRY: its four refusals in R27's order, and the entry it creates: the lowest free id, R28's values, its place, the
revision and the mark; the other entries are left but for the state of what enters or leaves the armed slot. Auto-arm runs
where the slot is empty (R51), and chooses again where the new entry stands before an AUTO-armed one (R52). The timing set
carries nothing for the new entry, whatever it holds of a freed entry of the same id. That bits 24-31 of the command frame are
disregarded is the model's choice (log entry 40). -/
def Obligations.NewEntry : Prop :=
  ∀ (n : Fin 4) (k : Command) (f story planned : Word) (s : State), s.completes n k f = true → k.code = 0x10 →
    k.data = [story, planned] →
    let after := k.sel.toNat
    let refused (r : Reason) : Prop := exec (.newEntry n f) s = .next (s.declined n 0x10 r (s.begun n))
    (after ≠ 0 ∧ s.names after = false → refused .badId)
      ∧ (after = 0 ∨ s.names after = true →
        (kindOfCode? k.opLow.toNat = none ∨ story = BitVec.allOnes 32 ∨ planned = BitVec.allOnes 32 → refused .badArgument)
        ∧ ∀ kind, kindOfCode? k.opLow.toNat = some kind → story ≠ BitVec.allOnes 32 → planned ≠ BitVec.allOnes 32 →
          (s.store.lowestFree? = none → refused .full)
          ∧ ∀ id, s.store.lowestFree? = some id →
            let e : Entry :=
              { id := id, kind := kind, state := .ready, story := story, planned := min planned.toNat 131071, minimum := none,
                reported := none, hardPost := none, station := none, scriptStart := none, clipChannel := none, float := false,
                autoAdvance := false, autoPost := false, editedOnAir := false, cues := [], takeIndex := none,
                takeTime := none }
            let order := if after = 0 then e :: s.store.order
              else s.store.order.flatMap fun x => if x.id = after then [x, e] else [x]
            let slot := s.tkc.afterChange id order
            ∃ t, exec (.newEntry n f) s =
                .next (s.answered n 0x10 [w32 (min planned.toNat 131071), frameOfBytes (w8 id) 0 0 0] t)
              ∧ t.store = { order := slotStates s.tkc.armed slot order, revision := s.store.revision + 1, dirty := true }
              ∧ t.tkc = { s.tkc with armed := slot }
              ∧ t.timing = { s.timing with
                  created := id :: s.timing.created,
                  view := s.timing.view.map fun v => { v with created := id :: v.created } }
              ∧ t = { s.begun n with store := t.store, tkc := t.tkc, timing := t.timing, links := t.links })

/-- DELETE ENTRY: refused for an id that names no entry and for an entry ON_AIR; else the id leaves the running order and
the armed slot, which auto-arm may then fill (R51, R53), the fallback it was becomes none, and every trigger unit that names
it is disabled and dropped. -/
def Obligations.DeleteEntry : Prop :=
  ∀ (n : Fin 4) (k : Command) (f : Word) (s : State), s.completes n k f = true → k.code = 0x11 →
    let id := k.sel.toNat
    (s.entry? id = none → exec (.deleteEntry n f) s = .next (s.declined n 0x11 .badId (s.begun n)))
      ∧ ∀ e, s.entry? id = some e →
        (e.state = .onAir → exec (.deleteEntry n f) s = .next (s.declined n 0x11 .state (s.begun n)))
        ∧ (e.state ≠ .onAir →
          let order := s.store.order.filter fun x => x.id != id
          let left := if (s.tkc.armed.map fun a => a.id) = some id then none else s.tkc.armed
          let slot := { s.tkc with armed := left }.afterAutoArm order
          ∃ t, exec (.deleteEntry n f) s = .next (s.answered n 0x11 [(0 : Byte) ++ w8 id ++ w16 e.cues.length] t)
            ∧ t.store = { order := slotStates left slot order, revision := s.store.revision + 1, dirty := true }
            ∧ t.tkc = { s.tkc with
                armed := slot, fallback := if s.tkc.fallback = some id then none else s.tkc.fallback }
            ∧ (∀ u : Fin 8,
                t.triggers.units[u] =
                  (if (s.triggers.units[u]).condition.entryNamed = some id
                      ∨ (s.triggers.units[u]).action.entryNamed = some id
                   then { s.triggers.units[u] with enable := false, dropped := true } else s.triggers.units[u]))
            ∧ t = { s.begun n with
                store := t.store, tkc := t.tkc, triggers := { s.triggers with units := t.triggers.units }, links := t.links })

/-- MOVE ENTRY: its refusals; a move that leaves the order as it was changes nothing; any other moves the entry alone,
advances the revision and marks timing dirty. A move of the programme entry leaves the armed slot as it is, empty or not (R53;
that R51's auto-arm does not run there is the model's reading: log entry 31). At any other move auto-arm runs where the slot is
empty (R51), and chooses again where the moved entry now stands before an AUTO-armed one (R52). -/
def Obligations.MoveEntry : Prop :=
  ∀ (n : Fin 4) (k : Command) (f : Word) (s : State), s.completes n k f = true → k.code = 0x12 →
    let id := k.sel.toNat
    let after := k.operand.toNat
    let refused (r : Reason) : Prop := exec (.moveEntry n f) s = .next (s.declined n 0x12 r (s.begun n))
    let ids (order : List Entry) := order.map fun x => x.id
    (s.names id = false ∨ (after ≠ 0 ∧ s.names after = false) → refused .badId)
      ∧ (s.names id = true → after = id → refused .badArgument)
      ∧ (after ≠ id → (after = 0 ∨ s.names after = true) → ∀ e, s.entry? id = some e →
        let others := s.store.order.filter fun x => x.id != id
        let order := if after = 0 then e :: others else others.flatMap fun x => if x.id = after then [x, e] else [x]
        let slot := if s.pgmId = id then s.tkc.armed else s.tkc.afterChange id order
        (ids order = ids s.store.order → exec (.moveEntry n f) s =
          .next (s.answered n 0x12 [(w8 after ++ w8 id ++ s.store.revision : Word)] (s.begun n)))
        ∧ (ids order ≠ ids s.store.order →
          ∃ t, exec (.moveEntry n f) s = .next (s.answered n 0x12 [(w8 after ++ w8 id ++ (s.store.revision + 1) : Word)] t)
            ∧ t.store = { order := slotStates s.tkc.armed slot order, revision := s.store.revision + 1, dirty := true }
            ∧ t.tkc = { s.tkc with armed := slot }
            ∧ t = { s.begun n with store := t.store, tkc := t.tkc, links := t.links }))

/-- WRITE FIELD by R32's table: each field's refusals, its clamps, its reply, and the whole state after it. A PLANNED of the
programme entry replaces its target, a STATION of it moves the countdowns; PLANNED, MINIMUM and HARD_POST mark timing
dirty. -/
def Obligations.WriteField : Prop :=
  ∀ (n : Fin 4) (k : Command) (f w : Word) (s : State), s.completes n k f = true → k.code = 0x13 → k.data = [w] →
    let op := k.operand.toNat
    let m := s.clock.mode
    let refused (r : Reason) : Prop := exec (.writeField n f) s = .next (s.declined n 0x13 r (s.begun n))
    let stored (old new : Word) (t : State) : Prop := exec (.writeField n f) s = .next (s.answered n 0x13 [old, new] t)
    let absent := w = BitVec.allOnes 32
    (s.entry? k.sel.toNat = none → refused .badId)
      ∧ ∀ e, s.entry? k.sel.toNat = some e →
        let written (x : Entry) : State :=
          updateEntry e.id (fun _ => if e.state = .onAir then { x with editedOnAir := true } else x) (s.begun n)
        (8 ≤ op → refused .badArgument)
        ∧ (op = 0 → (kindOfCode? w.toNat = none → refused .badArgument)
            ∧ ∀ kind, kindOfCode? w.toNat = some kind →
              if e.state = .onAir then refused .state
              else stored (w32 e.kind.code) (w32 kind.code) (written { e with kind := kind }))
        ∧ (op = 1 → if absent then refused .badArgument else stored e.story w (written { e with story := w }))
        ∧ (op = 2 →
            if absent then refused .badArgument
            else
              let p := min w.toNat 131071
              let t := markDirty (written { e with planned := p })
              stored (w32 e.planned) (w32 p) (if s.pgmId = e.id then retarget p t else t))
        ∧ (op = 3 →
            let p := if absent then none else some (min w.toNat 131071)
            stored (opt32 (e.minimum.map w32)) (opt32 (p.map w32)) (markDirty (written { e with minimum := p })))
        ∧ (op = 4 → (absent → stored (opt32 (e.hardPost.map (labelWord m))) w (markDirty (written { e with hardPost := none })))
            ∧ (¬absent → ∀ l, checkLabel m w = some l →
                stored (opt32 (e.hardPost.map (labelWord m))) (labelWord m (countOf m l))
                  (markDirty (written { e with hardPost := some (countOf m l) })))
            ∧ (¬absent → checkLabel m w = none → refused .badTime))
        ∧ (op = 5 → (3 ≤ w.toNat → refused .badArgument)
            ∧ ∀ st : Option StationId, w.toNat = stationFieldCode st →
              let t := written { e with station := st }
              stored (w32 (stationFieldCode e.station)) w (if s.pgmId = e.id then updateCountdowns t else t))
        ∧ (op = 6 →
            let p := if absent then none else some (min w.toNat 1048575)
            stored (opt32 (e.scriptStart.map w32)) (opt32 (p.map w32)) (written { e with scriptStart := p }))
        ∧ (op = 7 → (absent → stored (opt32 (e.clipChannel.map fun c => w32 c.val)) w (written { e with clipChannel := none }))
            ∧ (∀ c : Fin 16, w.toNat = c.val →
                stored (opt32 (e.clipChannel.map fun c => w32 c.val)) w (written { e with clipChannel := some c }))
            ∧ (¬absent → 16 ≤ w.toNat → refused .badArgument))

/-- A new target of the programme entry: the programme slot holds it; every END slot of the entry still WAITING is due at the
take index plus the target less its VALUE, or at the take index where the VALUE is greater, released its pre-roll earlier,
and every other slot is left as it was (R101); both stations show the countdown worked from the new remaining time, and post
COUNTDOWN, station A first (log entry 24), where it changed (R143), with the live remaining time also where the countdown is
absent (the model's choice: log entry 45); a lone REMAINING unit is met where the remaining time becomes its value and its spent
flag is clear (R154). -/
def Obligations.NewTargetRecomputesEndSlots : Prop :=
  ∀ (g : Nat) (s : State) (p : OnAir), s.tkc.pgm = some p → s.triggers.held = [] →
    let t := retarget g s
    let counted (st : StationId) : Option Int :=
      if (t.pgmEntry?.bind fun x => x.station) = some st then t.liveRemaining.map fun r =>
        let f : Int := if s.clock.mode = .f25 then 25 else 30
        max (-9999) (min 9999 (if 0 < r then (r + f - 1) / f else -((-r) / f)))
      else none
    let told (st : StationId) (l : Link) : Link :=
      if counted st = (s.station st).countdown then l
      else l.queueNotice (.countdown st (counted st) p.id t.liveRemaining s.clock.frame)
    (s.triggersOff →
      t.tkc = { s.tkc with pgm := some { p with target := g } } ∧ t.store = s.store ∧ t.asRun = s.asRun
      ∧ t.channels = s.channels
      ∧ (∀ i : Fin 32,
        match s.sched.slots[i] with
        | none => t.sched.slots[i] = none
        | some x =>
          let due := if x.value ≤ g then x.takeIndex + w32 g - w32 x.value else x.takeIndex
          t.sched.slots[i] = some
            (if x.entry = p.id ∧ x.anchor = .finish ∧ x.released = false ∧ due ≠ x.due
             then { x with due := due, release := due - w32 x.preRoll, ripe := .no } else x))
      ∧ (∀ st : StationId, (t.station st).countdown = counted st)
      ∧ (s.rst = false → s.onlyLevel .countdown → ∀ n : Fin 4, (t.link n).queue = (told .b (told .a (s.link n))).queue))
      ∧ ∀ (u : Fin 8) (m : Nat), s.lone u →
        let x := s.triggers.units[u]
        x.actsElsewhere → x.condition = .remaining m →
        let met := t.liveRemaining = some (m : Int) ∧ s.triggers.lastRemaining ≠ some (m : Int) ∧ x.spent = false
        (met → t.triggers.units[u] = { x.acted with spent := true }) ∧ (¬met → t.triggers.units[u] = x)

/-- READ FIELD, READ CUE and READ ORDER change no state but their link's; their refusals and their replies. -/
def Obligations.StoreReads : Prop :=
  ∀ (n : Fin 4) (k : Command) (f : Word) (s : State), s.completes n k f = true →
    let p := k.operand.toNat
    (k.code = 0x14 →
      (s.entry? k.sel.toNat = none → exec (.readField n f) s = .next (s.declined n 0x14 .badId (s.begun n)))
      ∧ ∀ e, s.entry? k.sel.toNat = some e →
        (16 ≤ p → exec (.readField n f) s = .next (s.declined n 0x14 .badArgument (s.begun n)))
        ∧ ∀ i : Fin 16, p = i.val →
          exec (.readField n f) s = .next (s.answered n 0x14
            [ [ w32 e.kind.code, e.story, w32 e.planned, opt32 (e.minimum.map w32),
                opt32 (e.hardPost.map (labelWord s.clock.mode)), w32 (stationFieldCode e.station),
                opt32 (e.scriptStart.map w32), opt32 (e.clipChannel.map fun c => w32 c.val), w32 e.state.code,
                opt32 (e.reported.map w32),
                (wBool e.float ||| (wBool e.autoAdvance <<< 1) ||| (wBool e.autoPost <<< 2)
                  ||| (wBool e.editedOnAir <<< 3)).setWidth 32,
                opt32 e.takeIndex, opt32 (e.takeTime.map (labelWord s.clock.mode)), w32 e.cues.length,
                w32 (s.store.order.findIdx (fun x => x.id == e.id) + 1),
                w32 (if e.state = .onAir then (s.target? e.id).getD (e.reported.getD e.planned)
                     else e.reported.getD e.planned) ].getD i.val 0 ]
            (s.begun n)))
      ∧ (k.code = 0x19 →
        (s.entry? k.sel.toNat = none → exec (.readCue n f) s = .next (s.declined n 0x19 .badId (s.begun n)))
        ∧ ∀ e, s.entry? k.sel.toNat = some e →
          (e.cues.length ≤ p → exec (.readCue n f) s = .next (s.declined n 0x19 .badArgument (s.begun n)))
          ∧ ∀ c, e.cues[p]? = some c → exec (.readCue n f) s = .next (s.answered n 0x19 c.frames (s.begun n)))
      ∧ (k.code = 0x1A →
        (240 ≤ p → exec (.readOrder n f) s = .next (s.declined n 0x1A .badArgument (s.begun n)))
        ∧ (p < 240 →
          let at' (i : Nat) : Byte := w8 (((s.store.order[p + i]?).map fun e => e.id).getD 0)
          exec (.readOrder n f) s = .next (s.answered n 0x1A
            [ w16 (512 - (s.store.order.map fun e => e.cues.length).sum) ++ s.store.revision,
              at' 1 ++ at' 0 ++ w8 (240 - s.store.order.length) ++ w8 s.store.order.length,
              at' 5 ++ at' 4 ++ at' 3 ++ at' 2, (0 : Byte) ++ (0 : Byte) ++ at' 7 ++ at' 6 ] (s.begun n))))

/-- SET FLAGS and CLEAR FLAGS: a mask beyond four bits is refused; else each flag that the mask names and the role may change
is set or cleared, EDITED_ON_AIR is set on an entry ON_AIR, and while FLOAT keeps its value nothing else changes (that a
command which names FLOAT and keeps its value is no change of FLOAT is the model's reading: log entry 22). FLOAT set on the
armed entry disarms it: it returns to READY with FLOAT present, and auto-arm may fill the slot with another; any other change
of FLOAT runs auto-arm on an empty slot, and again where the entry now stands eligible before an AUTO-armed one (R51 to
R53). -/
def Obligations.ChangeFlags : Prop :=
  ∀ (set : Bool) (n : Fin 4) (k : Command) (f : Word) (s : State), s.completes n k f = true →
    k.code = (if set then 0x15 else 0x16) →
    let row : Instr := if set then .setFlags n f else .clearFlags n f
    (s.entry? k.sel.toNat = none → exec row s = .next (s.declined n k.code .badId (s.begun n)))
      ∧ ∀ e, s.entry? k.sel.toNat = some e →
        (16 ≤ k.operand.toNat → exec row s = .next (s.declined n k.code .badArgument (s.begun n)))
        ∧ (k.operand.toNat < 16 →
          let named (b : Nat) (old : Bool) : Bool := if k.operand.getLsbD b then set else old
          let x : Entry := { e with
            float := named 0 e.float, autoAdvance := named 1 e.autoAdvance,
            autoPost := if (s.link n).role = .newsroom then named 2 e.autoPost else e.autoPost,
            editedOnAir := e.editedOnAir || e.state == .onAir }
          let disarms := e.state = .armed ∧ x.float = true
          let y : Entry := if disarms then { x with state := .ready } else x
          let left := if disarms then none else s.tkc.armed
          let order := s.store.order.map fun z => if z.id = e.id then y else z
          let slot := { s.tkc with armed := left }.afterChange e.id order
          ∃ t, exec row s = .next (s.answered n k.code [frameOfBytes e.flags x.flags 0 0] t)
            ∧ (x.float = e.float → t = updateEntry e.id (fun _ => x) (s.begun n))
            ∧ (x.float ≠ e.float → t.store.dirty = true
                ∧ t = { s.begun n with store := t.store, tkc := t.tkc, links := t.links })
            ∧ (x.float ≠ e.float → s.store.sound → armedSlotSound s → t.tkc = { s.tkc with armed := slot }
                ∧ t.store = { s.store with order := slotStates left slot order, dirty := true }))

/-- ADD CUE is refused for no entry, a place above the count or an invalid record, and with FULL when no cue record is left or
12 are in the list; else the record stands at its place. REMOVE CUE is refused for no entry or an index not below the count;
else the record at the index leaves the list. Nothing else changes but EDITED_ON_AIR. That the record's three frames come
before the rest of the reply is the model's reading (log entry 12). -/
def Obligations.AddAndRemoveCue : Prop :=
  ∀ (n : Fin 4) (k : Command) (f : Word) (s : State), s.completes n k f = true →
    (k.code = 0x17 →
      let refused (r : Reason) : Prop := exec (.addCue n f) s = .next (s.declined n 0x17 r (s.begun n))
      (s.entry? k.sel.toNat = none → refused .badId)
        ∧ ∀ e, s.entry? k.sel.toNat = some e →
          let place := if k.operand = BitVec.allOnes 16 then e.cues.length else k.operand.toNat
          (e.cues.length < place ∨ cueOfFrames? k = none → refused .badArgument)
          ∧ ∀ c, place ≤ e.cues.length → cueOfFrames? k = some c →
            (s.store.cuesUsed ≥ 512 ∨ 12 ≤ e.cues.length → refused .full)
            ∧ (s.store.cuesUsed < 512 → e.cues.length < 12 →
              let x : Entry := { e with cues := e.cues.insertIdx place c, editedOnAir := e.editedOnAir || e.state == .onAir }
              let t := updateEntry e.id (fun _ => x) (s.begun n)
              exec (.addCue n f) s = .next (s.answered n 0x17
                (c.frames ++ [w8 (e.cues.length + 1) ++ w8 place ++ w16 (512 - t.store.cuesUsed)]) t)))
      ∧ (k.code = 0x18 →
        let i := k.operand.toNat
        (s.entry? k.sel.toNat = none → exec (.removeCue n f) s = .next (s.declined n 0x18 .badId (s.begun n)))
          ∧ ∀ e, s.entry? k.sel.toNat = some e →
            (e.cues.length ≤ i → exec (.removeCue n f) s = .next (s.declined n 0x18 .badArgument (s.begun n)))
            ∧ ∀ c, e.cues[i]? = some c →
              let x : Entry := { e with cues := e.cues.take i ++ e.cues.drop (i + 1),
                                         editedOnAir := e.editedOnAir || e.state == .onAir }
              let t := updateEntry e.id (fun _ => x) (s.begun n)
              exec (.removeCue n f) s = .next (s.answered n 0x18
                (c.frames ++ [(0 : Byte) ++ w8 (e.cues.length - 1) ++ w16 (512 - t.store.cuesUsed)]) t))

/-- A cue record from the link is valid by R22: its anchor, action and channel are checked, a MARK names a station, any other
has none, and its VALUE is clamped. -/
def Obligations.CueChecks : Prop :=
  ∀ k : Command, ∀ c,
    (cueOfFrames? k = some c ↔
      (k.word 0).extractLsb' 0 8 = w8 c.anchor.code ∧ (k.word 0).extractLsb' 16 8 = w8 c.channel.val
        ∧ (k.word 0).extractLsb' 24 8 = w8 c.action.code ∧ c.argument = (k.word 2).extractLsb' 0 16
        ∧ (c.anchor = .mark → c.value = min (k.word 1).toNat 1048575
            ∧ ∃ st, c.station = some st ∧ (k.word 0).extractLsb' 8 8 = w8 (stationCode st))
        ∧ (c.anchor ≠ .mark → c.value = min (k.word 1).toNat 131071 ∧ c.station = none))

/-- CLEAR RUNDOWN: refused with STATE while an entry is ON_AIR or the engine is SAFE; else the store, the armed slot, the
fallback and the mark lists are empty, every unit that names an entry is dropped, and CLEARED is appended; the rest of each
station, the record's earlier entries and all else that R46 leaves are left. -/
def Obligations.ClearRundown : Prop :=
  ∀ (n : Fin 4) (k : Command) (f : Word) (s : State), s.completes n k f = true → k.code = 0x1B →
    ((∃ e ∈ s.store.order, e.state = .onAir) ∨ s.tkc.engine = .safe →
      exec (.clearRundown n f) s = .next (s.declined n 0x1B .state (s.begun n)))
      ∧ ((∀ e ∈ s.store.order, e.state ≠ .onAir) → s.tkc.engine = .normal →
        ∃ t, exec (.clearRundown n f) s =
            .next (s.answered n 0x1B [(0 : Byte) ++ w8 s.store.order.length ++ w16 s.store.cuesUsed] t)
          ∧ t.store = { order := [], revision := s.store.revision + 1, dirty := true }
          ∧ t.tkc = { s.tkc with armed := none, fallback := none }
          ∧ (∀ st : StationId, t.station st = { s.station st with marks := [], countdown := none, countRem := none })
          ∧ (∀ u : Fin 8,
              t.triggers.units[u] =
                (if (s.triggers.units[u]).condition.entryNamed = none ∧ (s.triggers.units[u]).action.entryNamed = none
                 then s.triggers.units[u] else { s.triggers.units[u] with enable := false, dropped := true }))
          ∧ t.asRun =
              { ring := (if s.asRun.ring.length < 256 then s.asRun.ring else s.asRun.ring.tail) ++
                  [ { sequence := s.asRun.next, frame := s.clock.frame, tod := s.clock.tod, mode := s.clock.mode,
                      kind := .cleared, entry := none, story := none, channel := none, cueIndex := none, trigger := none,
                      value := s.store.order.length } ],
                next := s.asRun.next + 1 }
          ∧ t = { s.begun n with
              store := t.store, tkc := t.tkc, triggers := { s.triggers with units := t.triggers.units },
              stations := t.stations, asRun := t.asRun, links := t.links })

/-- REPORT DURATION: its refusals; else REPORTED holds the clamped duration, timing is marked dirty, and for the programme
entry the target is replaced with it. -/
def Obligations.ReportDuration : Prop :=
  ∀ (n : Fin 4) (k : Command) (f w : Word) (s : State), s.completes n k f = true → k.code = 0x1C → k.data = [w] →
    let refused (r : Reason) : Prop := exec (.reportDuration n f) s = .next (s.declined n 0x1C r (s.begun n))
    (s.entry? k.sel.toNat = none → refused .badId)
      ∧ ∀ e, s.entry? k.sel.toNat = some e →
        (w = BitVec.allOnes 32 → refused .badArgument)
        ∧ (w ≠ BitVec.allOnes 32 → (e.state = .done ∨ e.state = .dropped → refused .state)
          ∧ (e.state = .ready ∨ e.state = .armed ∨ e.state = .onAir →
            let d := min w.toNat 131071
            let x : Entry := { e with reported := some d, editedOnAir := e.editedOnAir || e.state == .onAir }
            let t := markDirty (updateEntry e.id (fun _ => x) (s.begun n))
            exec (.reportDuration n f) s = .next (s.answered n 0x1C [opt32 (e.reported.map w32), w32 d]
              (if s.pgmId = e.id then retarget d t else t))))

/-- Every step keeps the rundown store sound: no id twice, ids in 1..240, fields in range, at most 12 cue records in a list
and 512 in all. -/
def Obligations.StepKeepsTheStoreSound : Prop :=
  ∀ s t : State, s.store.sound → step s = .next t → t.store.sound

/-! ### The take controller and the air alert (R48 to R73, R170 to R177) -/

/-- ARM is refused for no entry, and with STATE unless the entry is READY and not floated; else the entry is ARMED in the slot
with the tag MANUAL, the entry armed before is READY, and the hold-arm latch is clear. DISARM empties the slot, returns its
entry to READY, and sets the latch. -/
def Obligations.ArmAndDisarm : Prop :=
  ∀ (n : Fin 4) (k : Command) (f : Word) (s : State), s.completes n k f = true → s.store.sound → armedSlotSound s →
    let withStates (g : Entry → EntryState) : List Entry := s.store.order.map fun x => { x with state := g x }
    (k.code = 0x20 →
      (s.entry? k.sel.toNat = none → exec (.arm n f) s = .next (s.declined n 0x20 .badId (s.begun n)))
      ∧ ∀ e, s.entry? k.sel.toNat = some e →
        (e.state ≠ .ready ∨ e.float = true → exec (.arm n f) s = .next (s.declined n 0x20 .state (s.begun n)))
        ∧ (e.state = .ready → e.float = false →
          ∃ t, exec (.arm n f) s = .next (s.answered n 0x20 [frameOfBytes (w8 e.id) (w8 s.armedId) 0 0] t)
            ∧ t.tkc = { s.tkc with armed := some { id := e.id, tag := .manual }, holdArm := false }
            ∧ t.store.order = withStates (fun x =>
                if x.id = e.id then .armed else if x.state = .armed then .ready else x.state)
            ∧ t.store.dirty = true ∧ t.store.revision = s.store.revision
            ∧ t = { s.begun n with store := t.store, tkc := t.tkc, links := t.links }))
      ∧ (k.code = 0x21 →
        ∃ t, exec (.disarm n f) s = .next (s.answered n 0x21 [frameOfBytes (w8 s.armedId) 0 0 0] t)
          ∧ t.tkc = { s.tkc with armed := none, holdArm := true }
          ∧ t.store.order = withStates (fun x => if x.state = .armed then .ready else x.state)
          ∧ t = { s.begun n with store := t.store, tkc := t.tkc, links := t.links })

/-- TAKE and TAKE FORCED are refused with STATE in SAFE and with the armed slot empty, and TAKE, and TAKE alone, with
NOT_READY when the armed entry's station has its interlock on and READY clear. A refused take changes only its link. -/
def Obligations.TakeRefusals : Prop :=
  ∀ (forced : Bool) (n : Fin 4) (k : Command) (f : Word) (s : State), s.completes n k f = true →
    k.code = (if forced then 0x23 else 0x22) →
    let row : Instr := if forced then .takeForced n f else .take n f
    (s.tkc.engine = .safe ∨ s.tkc.armed = none → exec row s = .next (s.declined n k.code .state (s.begun n)))
      ∧ ∀ (a : Armed) (e : Entry) (st : StationId), forced = false → s.tkc.engine = .normal → s.tkc.armed = some a →
        s.entry? a.id = some e → e.station = some st → (s.station st).interlock = true → (s.station st).ready = false →
        exec row s = .next (s.declined n k.code .notReady (s.begun n))

/-- An accepted TAKE or TAKE FORCED completes. From a sound state in which no unit that acts asks for a take: the reply; the
slots, the stamps, the latched target and every entry's state; what auto-arm then arms; the stations' countdowns; the newest
record, TAKE or TAKEN_UNREADY (its absent STORY_REF: log entry 19). With no unit enabled every unit is reset (R157). From an
empty programme slot what the take loads is given whole: the timed cues in list order into the lowest free slots, with
SCHEDULE_FULL for those left out; at each station READY, the FOLLOW jump, the marks it skips and the marks loaded. A lone unit
on the entry's going to air, or on its starting remaining time, acts after the reset. -/
def Obligations.TakePutsTheArmedEntryOnAir : Prop :=
  ∀ (forced : Bool) (n : Fin 4) (k : Command) (f : Word) (s : State) (a : Armed) (e : Entry), s.completes n k f = true →
    k.code = (if forced then 0x23 else 0x22) → s.tkc.engine = .normal → s.tkc.armed = some a → s.entry? a.id = some e →
    (forced = true ∨ s.interlockClosed e = false) →
    let row : Instr := if forced then .takeForced n f else .take n f
    let length := if k.operand = BitVec.allOnes 16 then s.tkc.lastLength else min k.operand.toNat 250
    let planned := e.reported.getD e.planned
    let target := if e.id ∈ s.timing.created then planned
      else ((s.timing.published.records.find? fun r => r.id == e.id).map fun r => r.advised).getD planned
    let now := s.clock.frame
    let leaves (id : Nat) : Prop := s.outId = id ∨ length = 0 ∧ s.pgmId = id
    let slots (t : State) : Prop :=
      t.tkc = { s.tkc with
        armed := autoChoice (some e.id) s.store.order, pgm := some { id := e.id, target := target },
        out := if length = 0 then none else s.tkc.pgm.map fun p => { id := p.id, target := p.target, count := length, due := false },
        lastLength := length, holdArm := false }
      ∧ t.store = { s.store with
          order := slotStates none t.tkc.armed (s.store.order.map fun x =>
            if x.id = e.id then
              { x with state := .onAir, takeIndex := some now, takeTime := some s.clock.tod, editedOnAir := false }
            else if leaves x.id then { x with state := .done } else x),
          dirty := true }
      ∧ (∀ st : StationId, (t.station st).countdown = if e.station = some st then
          some (min 9999 (((target + s.clock.mode.rate - 1) / s.clock.mode.rate : Nat) : Int)) else none)
      ∧ (∃ r ∈ t.asRun.ring, r.kind = .take ∧ r.entry = some e.id ∧ r.story = some e.story ∧ r.frame = now
          ∧ r.tod = s.clock.tod ∧ r.value = planned - target)
      ∧ t.clock = s.clock ∧ t.timing = s.timing ∧ t.tally = s.tally
    let records (t : State) : Prop :=
      let unready : Bool := forced && s.interlockClosed e
      t.asRun.ring.getLast? = some
        { sequence := t.asRun.next - 1, frame := now, tod := s.clock.tod, mode := s.clock.mode,
          kind := if unready then .takenUnready else .take, entry := some e.id,
          story := if unready then none else some e.story, channel := none, cueIndex := none, trigger := none,
          value := if unready then 0 else planned - target }
    let schedules (t : State) : Prop :=
      let timed := e.cues.zipIdx.filter fun c => c.1.anchor != .mark
      let free := (List.finRange 32).filter fun i => (s.sched.slots[i]).isNone
      (∀ i : Fin 32, (s.sched.slots[i]).isSome = true → t.sched.slots[i] = s.sched.slots[i])
      ∧ (∀ (j : Nat) (i : Fin 32), free[j]? = some i → t.sched.slots[i] = (timed[j]?).map fun c =>
          let due := if c.1.anchor = .start then now + w32 c.1.value
            else if c.1.value ≤ target then now + w32 target - w32 c.1.value else now
          let preRoll := if c.1.action = .fire then (s.channel c.1.channel).config.preRoll else 0
          { entry := e.id, cueIndex := c.2, story := e.story, channel := c.1.channel, action := c.1.action,
            argument := c.1.argument, anchor := c.1.anchor, value := c.1.value, takeIndex := now, due := due,
            preRoll := preRoll, release := due - w32 preRoll, released := false, loadOrder := s.sched.nextLoad + j,
            ripe := .no })
      ∧ (free.length < timed.length → ∃ r ∈ t.asRun.ring, r.kind = .scheduleFull ∧ r.entry = some e.id
          ∧ r.story = some e.story ∧ r.value = timed.length - free.length ∧ r.frame = now)
    let marks (t : State) : Prop := ∀ st : StationId,
      let x := s.station st
      let jump := if e.station = some st ∧ x.follow = true then e.scriptStart else none
      let q := jump.getD x.position
      let old := x.marks.map fun m =>
        if m.state = .armed ∧ x.position < m.position ∧ m.position ≤ q then { m with state := .skipped } else m
      let named := e.cues.zipIdx.filter fun c => c.1.anchor == .mark && c.1.station == some st
      let loaded : List Mark := (named.take (16 - old.length)).map fun c =>
        { entry := e.id, cueIndex := c.2, story := e.story, position := c.1.value, channel := c.1.channel,
          action := c.1.action, argument := c.1.argument, state := if q < c.1.value then .armed else .skipped }
      t.station st = { x with
        ready := if e.station = some st then false else x.ready, position := q,
        marks := loaded.foldl (fun ms m =>
          ms.takeWhile (fun y => decide (y.position ≤ m.position))
            ++ m :: ms.dropWhile fun y => decide (y.position ≤ m.position)) old,
        countdown := (t.station st).countdown, countRem := if e.station = some st then some (target : Int) else none }
    (∃ data t, exec row s = .next (s.answered n k.code data t))
      ∧ (s.store.sound → armedSlotSound s → onAirSlotsSound s → s.quiet →
        s.triggersOff ∨ (∃ u, s.lone u ∧ (s.triggers.units[u]).actsElsewhere) →
        ∃ t, exec row s = .next (s.answered n k.code
            [now, frameOfBytes (w8 e.id) (w8 (if length = 0 then 0 else s.pgmId)) (w8 length) 0] t) ∧ slots t
          ∧ (s.triggersOff → records t
              ∧ (∀ u : Fin 8, t.triggers.units[u] = { s.triggers.units[u] with latch := false, spent := false })
              ∧ (∀ g : Fin 2, t.triggers.groups[g] = { s.triggers.groups[g] with stage := 0 })
              ∧ (s.tkc.pgm = none → (∀ st : StationId, (s.station st).marks.length ≤ 16) → schedules t ∧ marks t))
          ∧ ∀ u : Fin 8, s.lone u →
              let x := s.triggers.units[u]
              (x.condition = .entryOnAir e.id → t.triggers.units[u] = { x.acted with spent := false })
              ∧ (x.condition = .remaining target → t.triggers.units[u] = { x.acted with spent := true }))

/-- When the completion of a transition is due the outgoing entry leaves air: its slot is empty, it is DONE, DONE is recorded with
the frames it aired, no slot of the schedule and no mark of a station is left of it, and a lone ENTRY_DONE unit that names it
is met (R153). When none is due, or no transition is in progress, the row leaves the state as it was (the model's choice: log
entry 13). Each frame edge in a transition takes one from the count and changes nothing else of the take controller (R60). At
the edge that finds the count 1 the completion is due, and the count reaches 0 with it: in the edge's own step where its operand
lists it, and else in this row, up to which the slot holds its entry with the count 1 (the model's reading: log entries 9 and
41); a completion that no row has taken is done before the next edge. Of the edge this is stated where no automatic post and
no trigger unit can take an entry at it. -/
def Obligations.TransitionComplete : Prop :=
  (∀ (e : EdgeInput) (row : Instr) (s : State) (o : Outgoing), s.givesEdge e row = true → s.rst = false → s.quiet →
      s.triggersOff → (∀ x ∈ s.store.order, x.autoPost = false) → s.tkc.out = some o → 1 ≤ o.count →
      (∀ p ∈ s.tkc.pgm, p.id ≠ o.id) →
      ∃ t, exec row s = .next t ∧ t.tkc = { s.tkc with
        out := if o.due then none
          else if o.count ≠ 1 then some { o with count := o.count - 1 }
          else if .transition ∈ e.order then none else some { o with due := true } })
    ∧ ∀ s : State, s.rst = false → s.sched.atEdge = false →
    ((∀ o ∈ s.tkc.out, o.due = false) → exec .transitionComplete s = .next s)
      ∧ ∀ (o : Outgoing) (e : Entry) (taken : Word), s.tkc.out = some o → o.due = true → s.entry? o.id = some e →
        e.takeIndex = some taken → (∀ p ∈ s.tkc.pgm, p.id ≠ o.id) → s.store.sound → (∀ st : StationId, (s.station st).marks.length ≤ 16) →
        (s.triggersOff →
          ∃ t, exec .transitionComplete s = .next t ∧ t.tkc = { s.tkc with out := none }
            ∧ (∃ x, t.entry? o.id = some x ∧ x = { e with state := .done })
            ∧ (∃ r ∈ t.asRun.ring, r.kind = .done ∧ r.entry = some o.id ∧ r.value = (s.clock.frame - taken).toNat)
            ∧ (∀ (i : Fin 32) (x : Slot), t.sched.slots[i] = some x → x.entry ≠ o.id)
            ∧ (∀ (st : StationId), ∀ m ∈ (t.station st).marks, m.entry ≠ o.id)
            ∧ t.clock = s.clock ∧ t.timing = s.timing ∧ t.tally = s.tally ∧ t.pending = s.pending)
        ∧ ∀ u : Fin 8, s.lone u → s.triggers.held = [] → (s.triggers.units[u]).actsElsewhere →
          ∃ t, exec .transitionComplete s = .next t ∧ t.tkc = { s.tkc with out := none }
            ∧ ((s.triggers.units[u]).condition = .entryDone o.id → t.triggers.units[u] = (s.triggers.units[u]).acted)
            ∧ (∀ id, id ≠ o.id → (s.triggers.units[u]).condition = .entryDone id → t.triggers.units[u] = s.triggers.units[u])

/-- DROP and RESTORE: their refusals, and the state the entry takes: DROP records DROPPED and makes an armed entry leave the
slot, after which auto-arm may fill it; RESTORE makes the entry READY, and auto-arm takes it, or another, on an empty slot,
or chooses again where it now stands before an AUTO-armed entry (R51, R52, R63, R64). -/
def Obligations.DropAndRestore : Prop :=
  ∀ (n : Fin 4) (k : Command) (f : Word) (s : State), s.completes n k f = true → s.store.sound →
    let withState (id : Nat) (x : EntryState) : List Entry :=
      s.store.order.map fun y => if y.id = id then { y with state := x } else y
    (k.code = 0x24 →
      (s.entry? k.sel.toNat = none → exec (.drop n f) s = .next (s.declined n 0x24 .badId (s.begun n)))
      ∧ ∀ e, s.entry? k.sel.toNat = some e →
        (e.state = .onAir ∨ e.state = .done ∨ e.state = .dropped →
          exec (.drop n f) s = .next (s.declined n 0x24 .state (s.begun n)))
        ∧ (e.state = .ready ∨ e.state = .armed →
          let left := if (s.tkc.armed.map fun a => a.id) = some e.id then none else s.tkc.armed
          let order := withState e.id .dropped
          let slot := { s.tkc with armed := left }.afterAutoArm order
          ∃ t, exec (.drop n f) s = .next (s.answered n 0x24 [frameOfBytes (w8 e.id) (w8 e.state.code) 0 0] t)
            ∧ t.tkc = { s.tkc with armed := slot }
            ∧ t.store = { s.store with order := slotStates left slot order, dirty := true }
            ∧ (∃ r, t.asRun.ring.getLast? = some r ∧ r.kind = .dropped ∧ r.entry = some e.id ∧ r.story = some e.story)
            ∧ t = { s.begun n with store := t.store, tkc := t.tkc, asRun := t.asRun, links := t.links }))
      ∧ (k.code = 0x25 →
        (s.entry? k.sel.toNat = none → exec (.restore n f) s = .next (s.declined n 0x25 .badId (s.begun n)))
        ∧ ∀ e, s.entry? k.sel.toNat = some e →
          (e.state = .ready ∨ e.state = .armed ∨ e.state = .onAir →
            exec (.restore n f) s = .next (s.declined n 0x25 .state (s.begun n)))
          ∧ (e.state = .done ∨ e.state = .dropped →
            let order := withState e.id .ready
            let slot := s.tkc.afterChange e.id order
            ∃ t, exec (.restore n f) s = .next (s.answered n 0x25 [frameOfBytes (w8 e.id) (w8 e.state.code) 0 0] t)
              ∧ t.tkc = { s.tkc with armed := slot }
              ∧ t.store = { s.store with order := slotStates s.tkc.armed slot order, dirty := true } ∧ t.asRun = s.asRun
              ∧ t = { s.begun n with store := t.store, tkc := t.tkc, links := t.links }))

/-- SET FALLBACK takes an entry's id or 0, and refuses any other; RESUME is refused in NORMAL, and in SAFE returns the engine
to NORMAL, releases both lamps, lets auto-arm run on an empty slot (R51) and appends RESUME; READ TAKE STATUS shows the slots
and changes nothing (that the fields of an empty slot, other than ids, read absent is the model's choice: log entry 32; that
the count shown where a transition's completion is due and not done is 1 is its reading: log entry 41). -/
def Obligations.FallbackResumeAndStatus : Prop :=
  ∀ (n : Fin 4) (k : Command) (f : Word) (s : State), s.completes n k f = true →
    (k.code = 0x26 →
      let id := k.sel.toNat
      (id ≠ 0 → s.names id = false → exec (.setFallback n f) s = .next (s.declined n 0x26 .badId (s.begun n)))
      ∧ (id = 0 ∨ s.names id = true →
        exec (.setFallback n f) s = .next (s.answered n 0x26 [frameOfBytes (w8 (s.tkc.fallback.getD 0)) (w8 id) 0 0]
          { s.begun n with tkc := { s.tkc with fallback := if id = 0 then none else some id } })))
      ∧ (k.code = 0x27 →
        (s.tkc.engine = .normal → exec (.resume n f) s = .next (s.declined n 0x27 .state (s.begun n)))
        ∧ (s.tkc.engine = .safe →
          let slot := { s.tkc with engine := .normal }.afterAutoArm s.store.order
          ∃ t, exec (.resume n f) s = .next (s.answered n 0x27 [frameOfBytes (w8 ((slot.map fun a => a.id).getD 0)) 0 0 0] t)
            ∧ t.tkc = { s.tkc with engine := .normal, armed := slot }
            ∧ t.store = { s.store with
                order := slotStates s.tkc.armed slot s.store.order,
                dirty := s.store.dirty || decide (slot ≠ s.tkc.armed) }
            ∧ (∀ st : StationId, t.station st = { s.station st with override := none })
            ∧ (∃ r, t.asRun.ring.getLast? = some r ∧ r.kind = .resume ∧ r.entry = s.pgmEntry?.map fun e => e.id)
            ∧ t = { s.begun n with store := t.store, tkc := t.tkc, stations := t.stations, asRun := t.asRun,
                                    links := t.links }))
      ∧ (k.code = 0x28 →
        exec (.readTakeStatus n f) s = .next (s.answered n 0x28
          [ opt32 (s.pgmEntry?.bind fun e => e.takeIndex),
            opt32 ((s.pgmEntry?.bind fun e => e.takeTime).map (labelWord s.clock.mode)),
            opt32 (s.tkc.pgm.map fun p => w32 p.target), opt32 (s.tkc.out.map fun o => w32 o.target),
            frameOfBytes (w8 s.pgmId) (w8 s.outId) (opt8 (s.tkc.out.map fun o => w8 o.count)) (w8 s.armedId),
            frameOfBytes (opt8 (s.tkc.armed.map fun a => w8 a.tag.code)) (w8 s.tkc.lastLength) (wBool s.tkc.holdArm)
              (w8 (s.tkc.fallback.getD 0)),
            frameOfBytes (w8 s.tkc.engine.code) 0 0 0 ] (s.begun n)))

/-- R174: a falling edge of PANIC in SAFE posts ALERT with the repeat flag, fallback 0 and the slots as they stand, appends
PANIC with no entry, no STORY_REF and the value 0, and does nothing else. That the ALERT carries its time of day as a label
is the model's reading (log entry 7). -/
def Obligations.RepeatedAlert : Prop :=
  ∀ s : State, s.rst = false → s.tkc.engine = .safe →
    exec .panicFall s = .next
      { s with
        links := Vector.ofFn fun n => (s.link n).queueNotice
          (.alert s.clock.frame (labelWord s.clock.mode s.clock.tod) 0 s.pgmId s.outId true),
        asRun :=
          { ring := (if s.asRun.ring.length < 256 then s.asRun.ring else s.asRun.ring.tail) ++
              [ { sequence := s.asRun.next, frame := s.clock.frame, tod := s.clock.tod, mode := s.clock.mode, kind := .panic,
                  entry := none, story := none, channel := none, cueIndex := none, trigger := none, value := 0 } ],
            next := s.asRun.next + 1 } }

/-- A falling edge of PANIC in NORMAL: the engine is SAFE, the armed slot is empty, the fallback entry is on air alone where
one is held (it is cut to, unless it is the programme entry, with the advised duration of the published set where it is
counted and the set carries it, and its effective duration otherwise), both stations show an ALERT override of DARK, no slot
of another entry is WAITING, and PANIC is the newest record, with the entry taken. -/
def Obligations.AirAlert : Prop :=
  ∀ s : State, s.rst = false → s.tkc.engine = .normal → s.store.sound → armedSlotSound s →
    onAirSlotsSound s → (∀ id ∈ s.tkc.fallback, s.names id = true) →
    ∃ t, exec .panicFall s = .next t ∧ t.tkc.engine = .safe ∧ t.tkc.armed = none ∧ t.tkc.fallback = s.tkc.fallback
      ∧ (s.tkc.fallback = none → t.tkc.pgm = s.tkc.pgm ∧ t.tkc.out = s.tkc.out)
      ∧ (∀ id, s.tkc.fallback = some id → t.tkc.out = none ∧ (t.tkc.pgm.map fun p => p.id) = some id
          ∧ (s.pgmId = id → t.tkc.pgm = s.tkc.pgm)
          ∧ ∀ e, s.entry? id = some e → s.pgmId ≠ id →
            let advised := s.timing.published.records.find? fun r => r.id == id
            ((e.state = .ready ∨ e.state = .armed) → e.float = false → id ∉ s.timing.created → ∀ r, advised = some r →
              t.tkc.pgm = some { id := id, target := r.advised })
            ∧ (e.state = .onAir ∨ e.state = .done ∨ e.state = .dropped ∨ e.float = true ∨ id ∈ s.timing.created
                ∨ advised = none → t.tkc.pgm = some { id := id, target := e.reported.getD e.planned }))
      ∧ (∀ st : StationId, (t.station st).override = some { state := .dark, source := .alert })
      ∧ (∀ (i : Fin 32) (x : Slot), t.sched.slots[i] = some x → x.released = false → s.tkc.fallback = some x.entry)
      ∧ (∃ r, t.asRun.ring.getLast? = some r ∧ r.kind = .panic
          ∧ r.entry = (if s.tkc.fallback = some s.pgmId then none else s.tkc.fallback))
      ∧ t.clock = s.clock ∧ t.timing = s.timing ∧ t.tally = s.tally ∧ t.pending = s.pending

/-- Every step keeps the slots sound, with a sound store: the armed entry is the one entry ARMED and is not floated, and the
entries ON_AIR are those of the programme and outgoing slots. Every step also keeps the transition count in 1..250 for as long
as the outgoing slot holds an entry, and the last transition length in 0..250 (R48). -/
def Obligations.StepKeepsTheSlotsSound : Prop :=
  (∀ s t : State, s.store.sound → armedSlotSound s → onAirSlotsSound s → step s = .next t →
    t.store.sound ∧ armedSlotSound t ∧ onAirSlotsSound t)
    ∧ ∀ s t : State, transitionSound s → step s = .next t → transitionSound t

/-- In SAFE no take is made: whatever comes but RESUME or a reset, the engine stays SAFE and the programme slot keeps its
entry. A hard post is handled at an edge by R65 to R67: the posts a forward set passed over are missed, in running order, and
lose AUTO_POST; then the first entry ahead that is READY or ARMED, unfloated, with a post and AUTO_POST is the candidate,
reached where the new time of day equals its post and the edge counted or set. In SAFE a reached post is recorded SUPPRESSED
with the value 256; in NORMAL the READY and ARMED entries before it are dropped, it is taken, and POST_REACHED, the newest
record, counts them. A frame edge takes it. -/
def Obligations.SafeMakesNoTake : Prop :=
  (∀ (i : Instr) (s t : State), s.tkc.engine = .safe → s.quiet → onAirSlotsSound s → exec i s = .next t →
    (∀ l, i ≠ .powerOn l) → i ≠ .rstAssert → (∀ n f, i ≠ .resume n f) →
    t.tkc.engine = .safe ∧ (t.tkc.pgm.map fun p => p.id) = s.tkc.pgm.map fun p => p.id)
    ∧ ∀ s : State, s.store.sound → armedSlotSound s → onAirSlotsSound s →
      let d : Int := s.clock.mode.day
      let ahead := standingAfter (s.tkc.pgm.map fun p => p.id) s.store.order
      let may (e : Entry) : Bool := (e.state == .ready || e.state == .armed) && !e.float && e.hardPost.isSome && e.autoPost
      let missed (x : EdgeInfo) (e : Entry) : Bool :=
        let k := ((x.new : Int) - x.old) % d
        may e && x.kind == .set && decide (1 ≤ k ∧ 2 * k ≤ d)
          && e.hardPost.any fun p => let j := ((p : Int) - x.old) % d; decide (1 ≤ j ∧ j < k)
      let candidate (x : EdgeInfo) (q : Entry) : Prop := ahead.find? (fun e => may e && !missed x e) = some q
      let reached (x : EdgeInfo) (q : Entry) : Prop := q.hardPost = some x.new ∧ x.kind ≠ .held
      let cleared (x : EdgeInfo) (order : List Entry) : List Entry := order.map fun e =>
        if ∃ m ∈ ahead.filter (missed x), m.id = e.id then { e with autoPost := false } else e
      let before (q : Entry) : List Entry := ahead.takeWhile fun e => e.id != q.id
      let dropped (x : EdgeInfo) (q : Entry) : List Entry :=
        (cleared x (before q)).filter fun e => e.state == .ready || e.state == .armed
      (let t := handlePosts s
        let gone := ahead.filter (missed s.edge)
        ((∀ q, candidate s.edge q → ¬reached s.edge q) → t.store = { s.store with order := cleared s.edge s.store.order }
          ∧ t.tkc = s.tkc ∧ t.asRun.next = s.asRun.next + w32 gone.length
          ∧ (∀ m, gone.getLast? = some m → ∃ r, t.asRun.ring.getLast? = some r ∧ r.kind = .postMissed
              ∧ r.entry = some m.id ∧ r.story = some m.story ∧ some r.value = m.hardPost))
        ∧ ∀ q, candidate s.edge q → reached s.edge q →
          (s.tkc.engine = .safe → t.store = { s.store with order := cleared s.edge s.store.order } ∧ t.tkc = s.tkc
            ∧ t.asRun.next = s.asRun.next + w32 gone.length + 1
            ∧ ∃ r, t.asRun.ring.getLast? = some r ∧ r.kind = .suppressed ∧ r.entry = some q.id ∧ r.story = some q.story
                ∧ r.value = 256)
          ∧ (s.tkc.engine = .normal → s.triggersOff → s.quiet →
            (t.tkc.pgm.map fun p => p.id) = some q.id ∧ t.tkc.lastLength = s.tkc.lastLength ∧ t.tkc.holdArm = false
            ∧ (∃ y, t.entry? q.id = some y ∧ y.state = .onAir ∧ y.takeIndex = some s.clock.frame)
            ∧ (∀ e ∈ dropped s.edge q, t.entry? e.id = some { e with state := .dropped })
            ∧ ∃ r, t.asRun.ring.getLast? = some r ∧ r.kind = .postReached ∧ r.entry = some q.id ∧ r.story = some q.story
                ∧ r.value = (dropped s.edge q).length))
      ∧ ∀ (e : EdgeInput) (q : Entry),
        let x : EdgeInfo := { old := s.clock.tod, new := edgeTimeOfDay s.clock, kind := if s.clock.setPending.isSome then .set
          else if s.clock.run = .running then .counted else .held }
        s.rst = false → s.clock.sound → s.clock.ref = .lost → s.tkc.engine = .normal → s.tkc.out = none → s.triggersOff →
        s.quiet → candidate x q → reached x q →
        ∃ t, exec (.timebaseEdge e) s = .next t ∧ (t.tkc.pgm.map fun p => p.id) = some q.id
          ∧ (∃ y, t.entry? q.id = some y ∧ y.state = .onAir ∧ y.takeIndex = some (s.clock.frame + 1))
          ∧ ∀ z ∈ dropped x q, t.entry? z.id = some { z with state := .dropped }

/-! ### The timing engine (R74 to R95) -/

/-- The completion of a timing pass publishes the whole set of its view with the next generation: the source frame, time of
day and mode of the view, and one record for each counted entry, in running order. The starts are laid end to end from the
programme entry's on-air demand, a post follows the fill of the segment it closes, and each start has its day count (R84,
R85). The trims of a closed segment add up to its trim total. TIMING_CHANGED is posted, or the change held back, by R93 and
R94, and it gives the set's programme entry (the model's choice: log entry 34). Entries created since the view are in no set.
With no pass in flight nothing changes (the model's choice: log entry 13). A pass begins at an edge, with the view of R87, and
takes over the timing-dirty mark; this is stated where no other work of the edge can change the store or the slots. What the
baseline holds under an id that NEW ENTRY has taken since the published set's view then stands under 0, so that the entry
that has gone and the one that has come are two (the model's reading: log entry 33). -/
def Obligations.TimingPublish : Prop :=
  (∀ (e : EdgeInput) (s : State), s.rst = false → s.clock.ref = .lost → s.quiet → s.triggersOff → s.tkc.out = none →
      (∀ x ∈ s.store.order, x.autoPost = false) → s.timing.view = none →
      let gone {α : Type} (p : Nat × α) : Nat × α := if p.1 ∈ s.timing.created then (0, p.2) else p
      let old := s.timing.baseline
      ∃ t, exec (.timebaseEdge e) s = .next t ∧ t.store = { s.store with dirty := false }
        ∧ t.timing = { s.timing with
            baseline := { old with starts := old.starts.map gone, slacks := old.slacks.map gone },
            view := some { order := s.store.order, pgm := s.tkc.pgm, source := s.clock.frame + 1, tod := edgeTimeOfDay s.clock,
                           mode := s.clock.mode, tookDirty := s.store.dirty, created := [] } })
    ∧ ∀ s : State, s.rst = false →
    (s.timing.view = none → exec .timingPublish s = .next s)
      ∧ ∀ v, s.timing.view = some v →
        ∃ t, exec .timingPublish s = .next t ∧ t.timing.view = none ∧ t.timing.created = v.created
          ∧ t.timing.threshold = s.timing.threshold ∧ t.timing.holdOff = s.timing.holdOff
          ∧ t = { s with timing := t.timing, links := t.links }
          ∧
            let set := t.timing.published
            let day := v.mode.day
            let figures (k : Nat) : Option SegmentFigures := (set.segments[k]?).bind fun g => g.closed
            let demand : Nat := ((v.pgm.bind fun p => ((v.order.find? fun e => e.id == p.id).bind fun e => e.takeIndex).map
              fun taken => p.target - (v.source - taken).toNat)).getD 0
            set.generation = s.timing.published.generation + 1
            ∧ set.source = v.source ∧ set.tod = v.tod ∧ set.mode = v.mode
            ∧ (set.records.map fun r => (r.id, r.effective, r.isPost)) =
                (v.counted.map fun e => (e.id, e.reported.getD e.planned, e.hardPost.isSome))
            ∧ (∀ r ∈ set.records, r.advised = r.effective - r.trim ∧ r.trim ≤ r.margin ∧ (r.isPost = true → r.trim = 0))
            ∧ (set.segments.map fun g => g.closed.isSome) =
                List.replicate (v.counted.filter fun e => e.hardPost.isSome).length true ++ [false]
            ∧ (∀ (k : Nat) (f : SegmentFigures), figures k = some f →
                ((set.records.filter fun r => r.segment == k && !r.isPost).map fun r => r.trim).sum = f.trimTotal)
            ∧ (v.tod < day → (∀ e ∈ v.order, ∀ l ∈ e.hardPost, l < day) → ∃ offset : Nat → Nat,
                ∀ (i : Nat) (r : TimingRecord), set.records[i]? = some r →
                  offset i = (match i with
                      | 0 => demand
                      | j + 1 => offset j + ((set.records[j]?).map fun q => q.advised).getD 0)
                    + (if r.isPost then ((figures (r.segment - 1)).map fun f => f.fill).getD 0 else 0)
                  ∧ r.start = (v.tod + offset i) % day ∧ r.day = min 3 ((v.tod + offset i) / day)
                  ∧ (r.isPost = true → ∀ f, figures (r.segment - 1) = some f →
                      f.post = r.id ∧ r.start = (f.label + f.residual) % day))
            ∧
              let old := s.timing.baseline
              let apart (p q : Nat) : Nat :=
                let k := (((q : Int) - p) % (day : Int)).toNat
                if 2 * k ≤ day then k else day - k
              let moves (r : TimingRecord) : Bool := v.mode != old.mode ||
                match old.starts.find? fun p => p.1 == r.id with
                | none => true
                | some p => decide (s.timing.threshold < apart p.2 r.start)
              let moved := (old.starts.filter fun p => set.records.all fun r => r.id != p.1).length
                + (set.records.filter moves).length
              let classes := set.segments.filterMap fun g => g.closed.map fun f => (f.post, decide (f.slack < 0))
              let slack : Bool := (classes.any fun p => (old.slacks.find? fun q => q.1 == p.1) != some p)
                || old.slacks.any fun q => classes.all fun p => p.1 != q.1
              let change : Prop := 0 < moved ∨ slack = true ∨ s.timing.suppressed = true
              let may : Prop := ∀ w ∈ s.timing.lastNotice, s.timing.holdOff ≤ (v.source - w).toNat
              (change → may → t.timing.suppressed = false ∧ t.timing.lastNotice = some v.source
                ∧ t.timing.baseline = { starts := set.records.map fun r => (r.id, r.start), slacks := classes, mode := v.mode }
                ∧ t.links = Vector.ofFn fun n => (s.link n).queueNotice
                    (.timingChanged set.generation v.source (decide (0 < moved)) slack s.timing.suppressed moved
                      ((set.pgm.map fun p => p.id).getD 0) ((figures 0).map fun f => (f.post, f.slack))))
              ∧ (change → ¬may → t.timing.suppressed = true ∧ t.timing.lastNotice = s.timing.lastNotice
                ∧ t.timing.baseline = old ∧ t.links = s.links)
              ∧ (¬change → t.timing.suppressed = s.timing.suppressed ∧ t.timing.lastNotice = s.timing.lastNotice
                ∧ t.timing.baseline = old ∧ t.links = s.links)

/-- R82's trims: each member's is its proportional share of the trim total, rounded down, and the frames left over go one each
to the last members whose share is below their margin; they add up to the trim total, and none is above its member's margin.
A closed segment's figures: distance, demand, slack, fill and need; the trim total is the smaller of the need and the
available margin, and the residual is what is left of the need. -/
def Obligations.SegmentFigures : Prop :=
  (∀ (tt : Nat) (ms : List Entry),
      let share (e : Entry) : Nat := tt * e.margin / availableMargin ms
      let left := tt - (ms.map share).sum
      (trims tt ms).length = ms.length
      ∧ (∀ (i : Nat) (e : Entry), ms[i]? = some e → (trims tt ms)[i]? = some
          (if share e < e.margin ∧ ((ms.drop (i + 1)).filter fun x => decide (share x < x.margin)).length < left
           then share e + 1 else share e))
      ∧ (tt ≤ availableMargin ms → (trims tt ms).sum = tt ∧ ∀ p ∈ ms.zip (trims tt ms), p.2 ≤ p.1.margin))
    ∧ ∀ (d n label : Nat) (o : Opening) (ms : List Entry) (p : Entry), p.hardPost = some label → label < d → o.start < d →
        d % 2 = 0 →
        let f := closedFigures d n o ms p
        f.post = p.id ∧ f.label = label ∧ f.demand = o.demand + (ms.map fun e => e.reported.getD e.planned).sum
          ∧ (f.distance - ((label : Int) - (o.start : Int))) % (d : Int) = 0
          ∧ 2 * f.distance ≤ (d : Int) ∧ -(d : Int) < 2 * f.distance
          ∧ f.slack = f.distance - (f.demand : Int)
          ∧ (0 ≤ f.slack → (f.fill : Int) = f.slack ∧ f.need = 0) ∧ (f.slack < 0 → (f.need : Int) = -f.slack ∧ f.fill = 0)
          ∧ f.margin = (ms.map fun e => match e.minimum with
              | some m => e.reported.getD e.planned - m
              | none => 0).sum
          ∧ f.trimTotal = min f.need f.margin
          ∧ f.residual = f.need - f.trimTotal ∧ f.postStart = (label + f.residual) % d

/-- READ TIMING is refused for no entry and otherwise replies from the published set, which carries nothing for an entry
created since its view, whatever it holds of a freed entry of the same id; READ SEGMENT is refused for a segment the set does
not have, and else shows it; neither changes any state but its link's. SET REPORTING stores what is given, clamped to 250, and
leaves what is given as all ones. That READ SEGMENT takes its number from the selector is the model's reading (log entry 12), and
so is the kind it shows, 0 for CLOSED and 1 for OPEN (log entry 6). -/
def Obligations.TimingCommands : Prop :=
  ∀ (n : Fin 4) (k : Command) (f : Word) (s : State), s.completes n k f = true →
    let set := s.timing.published
    let pending := s.store.dirty || s.timing.view.any fun v => v.tookDirty
    (k.code = 0x30 →
      (s.entry? k.sel.toNat = none → exec (.readTiming n f) s = .next (s.declined n 0x30 .badId (s.begun n)))
      ∧ ∀ e, s.entry? k.sel.toNat = some e →
        let tail := frameOfBytes (w8 set.mode.code) (wBool pending) 0 0
        (e.id ∈ s.timing.created ∨ (∀ r ∈ set.records, r.id ≠ e.id) →
          exec (.readTiming n f) s = .next (s.answered n 0x30
            (List.replicate 6 (BitVec.allOnes 32) ++ [set.generation, set.source, frameOfBytes 1 0xFF 0xFF 0xFF, tail])
            (s.begun n)))
        ∧ ∀ r, e.id ∉ s.timing.created → (set.records.find? fun r => r.id == e.id) = some r →
          exec (.readTiming n f) s = .next (s.answered n 0x30
            [ w32 r.effective, w32 r.margin, w32 r.trim, w32 r.advised, w32 r.start, labelWord set.mode r.start,
              set.generation, set.source, frameOfBytes 0 (w8 r.segment) (wBool r.isPost) (w8 r.day), tail ] (s.begun n)))
      ∧ (k.code = 0x31 →
        (set.segments.length ≤ k.sel.toNat → exec (.readSegment n f) s = .next (s.declined n 0x31 .badArgument (s.begun n)))
        ∧ ∀ g, set.segments[k.sel.toNat]? = some g →
          let shows (closed : List Word) (kind post postDay : Byte) : Prop :=
            exec (.readSegment n f) s = .next (s.answered n 0x31
              ([w32 g.openDemand, w32 g.start, labelWord set.mode g.start] ++ closed ++
                [ set.generation, set.source, frameOfBytes (w8 g.number) kind (w8 g.firstMember) (w8 g.members),
                  frameOfBytes (w8 g.opener) (w8 g.startDay) post postDay,
                  frameOfBytes (w8 set.mode.code) (wBool pending) 0 0 ]) (s.begun n))
          let signed (i : Int) : Word := BitVec.ofInt 32 (i + 2147483648)
          (g.closed = none → shows (List.replicate 11 (BitVec.allOnes 32)) 1 0xFF 0xFF)
          ∧ ∀ c, g.closed = some c →
            shows [ labelWord set.mode c.label, signed c.distance, w32 c.demand, signed c.slack, w32 c.fill, w32 c.need,
                    w32 c.margin, w32 c.trimTotal, w32 c.residual, w32 c.postStart, labelWord set.mode c.postStart ]
              0 (w8 c.post) (w8 c.postDay))
      ∧ (k.code = 0x32 →
        let threshold := if k.opLow = 0xFF then s.timing.threshold else min k.opLow.toNat 250
        let holdOff := if k.opHigh = 0xFF then s.timing.holdOff else min k.opHigh.toNat 250
        exec (.setReporting n f) s = .next (s.answered n 0x32 [frameOfBytes (w8 threshold) (w8 holdOff) 0 0]
          { s.begun n with timing := { s.timing with threshold := threshold, holdOff := holdOff } }))

/-! ### The fire schedule and the fire channels (R96 to R124) -/

/-- SET CHANNEL is refused for a channel above 15 and for a mode or ready source outside its values, and stores the settings
given, clamped, leaving those given as all ones. READ CHANNEL clears the fault latch alone, READ SCHEDULE clears nothing;
both reply with what they read. That SET CHANNEL carries the mode in the operand's low byte and width, pre-roll, hold limit and
ready source in its data frame, and that READ SCHEDULE takes its slot number from the selector, is the model's reading (log
entry 12); so are the codes PULSE 0, LEVEL 1, PIN 0 and NONE 1 that SET CHANNEL stores a mode and a ready source from (log
entry 6). -/
def Obligations.ChannelSettingsAndReads : Prop :=
  ∀ (n : Fin 4) (k : Command) (f : Word) (s : State), s.completes n k f = true →
    (k.code = 0x41 → ∀ w, k.data = [w] →
      let refused (r : Reason) : Prop := exec (.setChannel n f) s = .next (s.declined n 0x41 r (s.begun n))
      let ready := w.extractLsb' 24 8
      (16 ≤ k.sel.toNat → refused .badId)
      ∧ ∀ c : Fin 16, k.sel.toNat = c.val →
        let old := (s.channel c).config
        ((2 ≤ k.opLow.toNat ∧ k.opLow ≠ 0xFF) ∨ (2 ≤ ready.toNat ∧ ready ≠ 0xFF) → refused .badArgument)
        ∧ ∀ (mode : ChanMode) (source : ReadySource), (k.opLow = 0xFF ∧ mode = old.mode ∨ k.opLow = w8 mode.code) →
          (ready = 0xFF ∧ source = old.ready ∨ ready = w8 source.code) →
          let field (i : Nat) := w.extractLsb' (8 * i) 8
          let new : ChannelConfig :=
            { mode := mode, width := if field 0 = 0xFF then old.width else max 1 (min (field 0).toNat 15),
              preRoll := if field 1 = 0xFF then old.preRoll else min (field 1).toNat 250,
              holdLimit := if field 2 = 0xFF then old.holdLimit else min (field 2).toNat 250, ready := source }
          exec (.setChannel n f) s = .next (s.answered n 0x41
            [ frameOfBytes (w8 new.mode.code) (w8 new.width) (w8 new.preRoll) (w8 new.holdLimit),
              frameOfBytes (w8 new.ready.code) 0 0 0 ]
            (putChannel c { s.channel c with config := new } (s.begun n))))
      ∧ (k.code = 0x45 →
        (16 ≤ k.sel.toNat → exec (.readChannel n f) s = .next (s.declined n 0x45 .badId (s.begun n)))
        ∧ ∀ c : Fin 16, k.sel.toNat = c.val →
          let ch := s.channel c
          let flying := ch.inFlight.map fun x => x.req
          let origin (r : Option Request) : Byte := opt8 (r.map fun x => w8 x.origin.code)
          let entry (r : Option Request) : Byte := opt8 (r.bind fun x => x.entry.map w8)
          let cue (r : Option Request) : Byte := opt8 (r.bind fun x => x.cueIndex.map w8)
          let action (r : Option Request) : Byte := opt8 (r.map fun x => w8 x.action.code)
          let argument (r : Option Request) : Half := opt16 (r.map fun x => x.argument)
          let fire := decide (ch.state = .fired ∨ ch.state = .playing)
          exec (.readChannel n f) s = .next (s.answered n 0x45
            [ opt32 (ch.inFlight.map fun x => x.due), opt32 (ch.inFlight.map fun x => x.firstCheck),
              argument ch.waiting ++ argument flying,
              frameOfBytes (w8 ch.state.code) (w8 ch.config.mode.code) (w8 ch.config.width) (w8 ch.config.preRoll),
              frameOfBytes (w8 ch.config.holdLimit) (w8 ch.config.ready.code) (wBool fire) (wBool ch.cue),
              frameOfBytes (wBool ch.rdy) (origin flying) (entry flying) (cue flying),
              frameOfBytes (action flying) (opt8 (ch.inFlight.map fun x => w8 x.held)) (origin ch.waiting) (entry ch.waiting),
              frameOfBytes (cue ch.waiting) (action ch.waiting) (wBool ch.faultLatch) 0 ]
            (putChannel c { ch with faultLatch := false } (s.begun n))))
      ∧ (k.code = 0x40 →
        (32 ≤ k.sel.toNat → exec (.readSchedule n f) s = .next (s.declined n 0x40 .badArgument (s.begun n)))
        ∧ ∀ i : Fin 32, k.sel.toNat = i.val →
          let occupied := w8 ((List.finRange 32).filter fun j => (s.sched.slots[j]).isSome).length
          let shows (ws : List Word) : Prop := exec (.readSchedule n f) s = .next (s.answered n 0x40 ws (s.begun n))
          (s.sched.slots[i] = none →
            shows [ BitVec.allOnes 32, BitVec.allOnes 32, BitVec.allOnes 32, (1 : Byte) ++ occupied ++ (0xFFFF : Half),
                    BitVec.allOnes 32, 0x00FFFFFF ])
          ∧ ∀ x, s.sched.slots[i] = some x →
            shows [ x.story, x.due, x.release, (0 : Byte) ++ occupied ++ x.argument,
                    frameOfBytes (w8 x.entry) (w8 x.cueIndex) (w8 x.channel.val) (w8 x.action.code),
                    frameOfBytes (w8 x.anchor.code) (w8 x.preRoll) (wBool x.released) 0 ])

/-- FIRE NOW is refused for a channel above 15 and for an action that is neither FIRE nor STOP. Its request enters an IDLE
channel, or one PLAYING from an earlier frame, with nothing waiting: a FIRE cues it with its check at the next edge, a STOP
leaves it IDLE; else it waits, in place of the request that waited. No other channel changes. -/
def Obligations.FireNow : Prop :=
  ∀ (n : Fin 4) (k : Command) (f w : Word) (s : State), s.completes n k f = true → k.code = 0x42 → k.data = [w] →
    let refused (r : Reason) : Prop := exec (.fireNow n f) s = .next (s.declined n 0x42 r (s.begun n))
    (16 ≤ k.sel.toNat → refused .badId)
      ∧ ∀ c : Fin 16, k.sel.toNat = c.val →
        (2 ≤ (w.extractLsb' 0 8).toNat → refused .badArgument)
        ∧ ∀ action : ChanAction, w.extractLsb' 0 8 = w8 action.code →
          let ch := s.channel c
          let r : Request := { origin := .manual, action := action, argument := k.operand, entry := none, story := none,
                               cueIndex := none, due := none }
          let enters := ch.waiting = none ∧ (ch.state = .idle ∨ ch.state = .playing ∧ ch.fresh = false)
          ∃ t, exec (.fireNow n f) s = .next (s.answered n 0x42
              [frameOfBytes (if enters then 0 else 1) (if ¬enters ∧ ch.waiting.isSome then 1 else 0) 0 0] t)
            ∧ (∀ d, d ≠ c → t.channel d = s.channel d)
            ∧ (enters → action = .fire →
                (t.channel c).state = .cueing ∧ (t.channel c).cue = true ∧ (t.channel c).waiting = none
                  ∧ (t.channel c).inFlight = some
                      { req := r, due := s.clock.frame + 1, mode := ch.config.mode, width := ch.config.width,
                        holdLimit := ch.config.holdLimit, ready := ch.config.ready, firstCheck := s.clock.frame + 1,
                        held := 0, pulseLeft := 0 }
                  ∧ t.asRun = s.asRun)
            ∧ (enters → action = .stop →
                (t.channel c).state = .idle ∧ (t.channel c).waiting = none ∧ (t.channel c).inFlight = ch.inFlight
                  ∧ ∃ x, t.asRun.ring.getLast? = some x ∧ x.kind = .fireOnTime ∧ x.channel = some c ∧ x.value = 0)
            ∧ (¬enters → t.channel c = { ch with waiting := some r }
                ∧ (ch.waiting = none → t.asRun = s.asRun)
                ∧ ∀ q ∈ ch.waiting, ∃ x, t.asRun.ring.getLast? = some x ∧ x.kind = .superseded ∧ x.isOf c q)
            ∧ t.clock = s.clock ∧ t.store = s.store ∧ t.tkc = s.tkc ∧ t.stations = s.stations ∧ t.tally = s.tally

/-- STOP CHANNEL is refused for a channel above 15; else the channel is IDLE with nothing in flight or waiting and CUE
deasserted, its configuration and fault latch are kept, the requests it cancels are recorded, and no other channel
changes. -/
def Obligations.StopChannel : Prop :=
  ∀ (n : Fin 4) (k : Command) (f : Word) (s : State), s.completes n k f = true → k.code = 0x43 →
    (16 ≤ k.sel.toNat → exec (.stopChannel n f) s = .next (s.declined n 0x43 .badId (s.begun n)))
      ∧ ∀ c : Fin 16, k.sel.toNat = c.val →
        let ch := s.channel c
        let cancelled := (if ch.waiting.isSome then 1 else 0)
          + (if (ch.state = .cueing ∨ ch.state = .hold) ∧ ch.inFlight.isSome then 1 else 0)
        ∃ t, exec (.stopChannel n f) s =
            .next (s.answered n 0x43 [frameOfBytes (w8 ch.state.code) (w8 cancelled) 0 0] t)
          ∧ (t.channel c).state = .idle ∧ (t.channel c).inFlight = none ∧ (t.channel c).waiting = none
          ∧ (t.channel c).cue = false ∧ (t.channel c).config = ch.config ∧ (t.channel c).faultLatch = ch.faultLatch
          ∧ (∀ d, d ≠ c → t.channel d = s.channel d)
          ∧ t.asRun.next = s.asRun.next + w32 cancelled
          ∧ (∀ fl, ch.inFlight = some fl → ch.state = .cueing ∨ ch.state = .hold → ∃ x, t.asRun.ring.getLast? = some x
              ∧ x.kind = .cancelled ∧ x.isOf c fl.req)
          ∧ (∀ (r : Request) (i : Fin 32), r.origin = .schedule (some i) →
              (ch.waiting = some r ∨ (ch.state.holdsRequest = true ∧ ∃ fl, ch.inFlight = some fl ∧ fl.req = r)) →
              t.sched.slots[i] = none)
          ∧ t = { s.begun n with channels := t.channels, sched := t.sched, asRun := t.asRun }

/-- CLIP END is refused for a channel above 15. It ends PLAYING and leaves the channel as it is in any other state. Where it
does not apply to the programme entry nothing else changes; where it applies in NORMAL with no entry armed NO_NEXT is
posted; where it applies in SAFE SUPPRESSED is recorded with the cause code 257 (that it has no STORY_REF is the model's
reading: log entry 19); with an entry armed, that entry is taken with the last transition length. -/
def Obligations.ClipEnd : Prop :=
  ∀ (n : Fin 4) (k : Command) (f : Word) (s : State), s.completes n k f = true → k.code = 0x44 →
    (16 ≤ k.sel.toNat → exec (.clipEnd n f) s = .next (s.declined n 0x44 .badId (s.begun n)))
      ∧ ∀ c : Fin 16, k.sel.toNat = c.val →
        let ch := s.channel c
        let ended : State := if ch.state = .playing
          then putChannel c { ch with state := .idle, fireFell := true } (s.begun n) else s.begun n
        let reply (taken : Bool) : List Word := [frameOfBytes (w8 ch.state.code) (wBool (ch.state == .playing)) (wBool taken) 0]
        let applies (e : Entry) : Prop := e.kind = .clip ∧ e.autoAdvance = true ∧ e.clipChannel = some c
        ((∀ e ∈ s.pgmEntry?, ¬applies e) → s.quiet →
          exec (.clipEnd n f) s = .next (s.answered n 0x44 (reply false) ended))
        ∧ ∀ e, s.pgmEntry? = some e → applies e →
          (s.tkc.engine = .normal → s.tkc.armed = none → s.quiet →
            exec (.clipEnd n f) s = .next (s.answered n 0x44 (reply false) (post (.noNext e.id e.story c) ended)))
          ∧ (s.tkc.engine = .safe → s.quiet →
            exec (.clipEnd n f) s = .next (s.answered n 0x44 (reply false)
              (append .suppressed (some e.id) none (some c) 257 ended)))
          ∧ ∀ a, s.tkc.engine = .normal → s.tkc.armed = some a →
            exec (.clipEnd n f) s = .next (s.answered n 0x44 (reply true)
              (serveTriggers (takeEntry .clipEnd a.id s.tkc.lastLength ended)))

/-- The slot released next to a channel is one that is to be released at this edge, and no other such slot of the channel is
due earlier, or loaded earlier at the same due index (due indices counted from the frame in progress, modulo 2^32). It
becomes RELEASED, and its request is delivered. At each edge the WAITING slots whose release index is at or before the new
frame, and no others, are to be released, and no slot is changed otherwise; of the edge's rows this is stated where no release
is left over from the edge before and nothing else of the edge can free or load a slot. With no slot to release nothing changes
(the model's choice: log entry 13). -/
def Obligations.ScheduleRelease : Prop :=
  (∀ (x : Slot) (now : Word), (x.newFrame now).ripe = .due ↔ x.released = false ∧ (now - x.release).toNat < 2 ^ 31)
    ∧ (∀ (e : EdgeInput) (s : State), e.order = [] → s.rst = false → s.quiet → s.triggersOff → s.tkc.out = none →
        (∀ x ∈ s.store.order, x.autoPost = false) →
        (∀ c : Fin 16, (s.channel c).inFlight = none ∧ (s.channel c).waiting = none) →
        (∀ (i : Fin 32) (x : Slot), s.sched.slots[i] = some x → x.ripe = .no) →
        let opens (row : Instr) : Prop := ∃ t, exec row s = .next t ∧ ∀ i : Fin 32,
          (s.sched.slots[i] = none → t.sched.slots[i] = none)
          ∧ ∀ x, s.sched.slots[i] = some x → t.sched.slots[i] = some { x with
              ripe := if x.released = false ∧ (s.clock.frame + 1 - x.release).toNat < 2 ^ 31 then .due else .no }
        (s.clock.ref = .lost → opens (.timebaseEdge e)) ∧ (s.clock.ref = .present → opens (.refLoss e))
          ∧ ∀ dt : Nat, s.clock.period.framePeriod ≤ 2 * (s.clock.sinceEdge + dt) → opens (.refinPulse dt e))
    ∧ ∀ (c : Fin 16) (s : State), s.rst = false →
    let ripe (x : Slot) : Prop := x.channel = c ∧ x.released = false ∧ x.ripe ≠ .no
    let lead (x : Slot) : Int := (x.due - s.clock.frame).toInt
    ((∀ (i : Fin 32) (x : Slot), s.sched.slots[i] = some x → ¬ripe x) → exec (.scheduleRelease c) s = .next s)
      ∧ ∀ (j : Fin 32) (y : Slot), s.sched.slots[j] = some y → ripe y →
        ∃ (i : Fin 32) (x : Slot), s.sched.slots[i] = some x ∧ ripe x
          ∧ (∀ (m : Fin 32) (z : Slot), s.sched.slots[m] = some z → ripe z →
              lead x < lead z ∨ lead x = lead z ∧ x.loadOrder ≤ z.loadOrder)
          ∧ exec (.scheduleRelease c) s = .next (deliver c
              { origin := .schedule (some i), action := x.action, argument := x.argument, entry := some x.entry,
                story := some x.story, cueIndex := some x.cueIndex, due := some x.due }
              (putSlot i (some { x with released := true, ripe := .no }) s))

/-- FIRST_CHECK, HOLD_LIMIT_REACHED and PULSE_END. At its first check a request fires when it is ready, else faults with a
hold limit of 0, else holds. At its hold limit it faults. At the end of its pulse it ends, and the channel is IDLE where
nothing waits; a FIRE that waits enters there, with its check no earlier than the next edge since FIRE has just fallen (R108,
R110), and a STOP that waits acts there and leaves the channel IDLE (R115). A fire is recorded with its lateness; a fault sets
the latch and is recorded with the frames held. No other channel changes.
What a frame edge itself does at a channel at which nothing of the edge before is left: CUE falls (R109), a HOLD sample fires
where ready is true and else counts one frame held (R112), a running pulse has one frame less (R113), FAULT is left (R114), and
a request that waits in FAULT, IDLE or PLAYING enters (R108). A first check, a hold limit and a pulse's end that fall due there
wait for their rows (the model's choice: log entry 9). Stated where the edge's operand lists nothing and no post, trigger unit,
transition or release can act at the edge; its records, where no other channel has a request.
The three rows post FIRE_CUED, FIRE_DONE and FIRE_FAULT, and all three, with the records, carry the unit of a request of origin
TRIGGER (R161); its byte in the last two is the model's choice (log entry 35), and the code 2 of TRIGGER its reading (log 6). -/
def Obligations.ChannelEvents : Prop :=
  (∀ (c : Fin 16) (s : State) (fl : InFlight), s.rst = false → (s.channel c).inFlight = some fl →
    let ch := s.channel c
    let ready := fl.ready = .always ∨ ch.rdy = true
    let late := min 65535 (s.clock.frame - fl.due).toNat
    let last (t : State) (kind : AsRunKind) (value : Nat) : Prop :=
      ∃ r, t.asRun.ring.getLast? = some r ∧ r.kind = kind ∧ r.value = value ∧ r.isOf c fl.req
    let posted (t : State) (k : Notice) : Prop := ∀ n : Fin 4, t.link n = (s.link n).queueNotice k
    let others (t : State) : Prop := (∀ d, d ≠ c → t.channel d = s.channel d) ∧ t.clock = s.clock ∧ t.store = s.store
      ∧ t.tkc = s.tkc ∧ t.stations = s.stations
    (ch.state = .cueing → atOrBefore fl.firstCheck s.clock.frame = true → ∃ t, exec (.firstCheck c) s = .next t ∧ others t
        ∧ (ready → last t (if late = 0 then .fireOnTime else .fireLate) late
            ∧ posted t (.fireDone c fl.req s.clock.frame late)
            ∧ (fl.mode = .pulse → (t.channel c).state = .fired
                ∧ (t.channel c).inFlight = some { fl with pulseLeft := fl.width })
            ∧ (fl.mode = .level → (t.channel c).state = .playing ∧ (t.channel c).inFlight = none))
        ∧ (¬ready → fl.holdLimit = 0 → (t.channel c).state = .fault ∧ (t.channel c).faultLatch = true
            ∧ (t.channel c).inFlight = none ∧ last t .fireFault fl.held
            ∧ posted t (.fireFault c fl.req fl.held))
        ∧ (¬ready → fl.holdLimit ≠ 0 → (t.channel c).state = .hold
            ∧ (t.channel c).inFlight = some { fl with held := 0 } ∧ t.asRun = s.asRun
            ∧ t.links = s.links))
      ∧ (ch.state = .hold → ch.sampled = false → ¬ready → fl.holdLimit ≤ fl.held + 1 →
        ∃ t, exec (.holdLimitReached c) s = .next t ∧ others t ∧ (t.channel c).state = .fault
          ∧ (t.channel c).faultLatch = true ∧ (t.channel c).inFlight = none ∧ last t .fireFault (fl.held + 1)
          ∧ posted t (.fireFault c fl.req (fl.held + 1)))
      ∧ (ch.state = .fired → fl.pulseLeft = 0 → ch.waiting = none →
        ∃ t, exec (.pulseEnd c) s = .next t ∧ others t ∧ (t.channel c).state = .idle ∧ (t.channel c).inFlight = none
          ∧ t.asRun = s.asRun ∧ t.links = s.links)
      ∧ ∀ r : Request, ch.state = .fired → fl.pulseLeft = 0 → ch.waiting = some r →
        let now := s.clock.frame
        ∃ t, exec (.pulseEnd c) s = .next t ∧ others t ∧ (t.channel c).waiting = none
          ∧ (r.action = .fire →
              let due := match r.origin with
                | .schedule _ => r.due.getD now
                | _ => now + 1
              let check := if (now - due).toNat < 2 ^ 31 then now + 1 else due
              (t.channel c).state = .cueing ∧ (t.channel c).cue = true ∧ t.asRun = s.asRun
                ∧ (t.channel c).inFlight = some
                    { req := r, due := due, mode := ch.config.mode, width := ch.config.width, holdLimit := ch.config.holdLimit,
                      ready := ch.config.ready, firstCheck := check, held := 0, pulseLeft := 0 }
                ∧ posted t (.fireCued c r due check))
          ∧ (r.action = .stop →
              let stopLate := match r.origin with
                | .schedule _ => min 65535 (now - r.due.getD now).toNat
                | _ => 0
              (t.channel c).state = .idle ∧ (t.channel c).inFlight = none
                ∧ ∃ x, t.asRun.ring.getLast? = some x ∧ x.kind = (if stopLate = 0 then .fireOnTime else .fireLate)
                    ∧ x.value = stopLate ∧ x.isOf c r ∧ posted t (.fireDone c r now stopLate)))
    ∧ ∀ (c : Fin 16) (e : EdgeInput) (row : Instr) (s : State), s.givesEdge e row = true → e.order = [] → s.rst = false →
      s.quiet → s.triggersOff → s.tkc.out = none → (∀ x ∈ s.store.order, x.autoPost = false) →
      (∀ (i : Fin 32) (x : Slot), s.sched.slots[i] = some x → x.ripe = .no) →
      let ch := s.channel c
      let now := s.clock.frame + 1
      let alone : Prop := ∀ d, d ≠ c → (s.channel d).inFlight = none ∧ (s.channel d).waiting = none
      let shows (t : State) (state : ChannelState) (cue : Bool) (fl : Option InFlight) (waiting : Option Request) : Prop :=
        let x := t.channel c
        x.state = state ∧ x.cue = cue ∧ x.inFlight = fl ∧ x.waiting = waiting ∧ x.config = ch.config
          ∧ x.faultLatch = ch.faultLatch ∧ x.rdy = e.rdy.getLsbD c.val
      let quietly (state : ChannelState) (cue : Bool) (fl : Option InFlight) (waiting : Option Request) : Prop :=
        ∃ t, exec row s = .next t ∧ shows t state cue fl waiting ∧ (alone → t.asRun = s.asRun)
      let recorded (state : ChannelState) (fl : Option InFlight) (waiting : Option Request) (r : Request) (due : Word) : Prop :=
        let late := min 65535 (now - due).toNat
        ∃ t, exec row s = .next t ∧ shows t state false fl waiting ∧ (alone → t.asRun.next = s.asRun.next + 1
          ∧ ∃ x, t.asRun.ring.getLast? = some x ∧ x.kind = (if late = 0 then .fireOnTime else .fireLate) ∧ x.value = late
            ∧ x.isOf c r)
      (∀ fl, ch.inFlight = some fl →
        let ready := fl.ready = .always ∨ e.rdy.getLsbD c.val = true
        let longer : InFlight := { fl with held := fl.held + 1 }
        (ch.state = .cueing → atOrBefore fl.firstCheck s.clock.frame = false → quietly .cueing false (some fl) ch.waiting)
          ∧ (ch.state = .hold → ch.sampled = true →
            (ready → fl.mode = .pulse →
              recorded .fired (some { longer with pulseLeft := fl.width }) ch.waiting fl.req fl.due)
            ∧ (ready → fl.mode = .level → recorded .playing none ch.waiting fl.req fl.due)
            ∧ (¬ready → quietly .hold false (some (if longer.held < fl.holdLimit then longer else fl)) ch.waiting))
          ∧ (ch.state = .fired → fl.pulseLeft ≠ 0 →
            quietly .fired false (some { fl with pulseLeft := fl.pulseLeft - 1 }) ch.waiting))
        ∧ (ch.state = .fault ∨ ch.state = .idle ∨ ch.state = .playing →
          (ch.waiting = none → quietly (if ch.state = .playing then .playing else .idle) false ch.inFlight none)
          ∧ ∀ r : Request, ch.waiting = some r → ch.fresh = true →
            (r.action = .fire →
              let due := match r.origin with
                | .schedule _ => r.due.getD now
                | _ => now + 1
              let check := if (now - due).toNat < 2 ^ 31 then (if ch.state = .playing then now + 1 else now) else due
              quietly .cueing true (some
                { req := r, due := due, mode := ch.config.mode, width := ch.config.width, holdLimit := ch.config.holdLimit,
                  ready := ch.config.ready, firstCheck := check, held := 0, pulseLeft := 0 }) none)
            ∧ (r.action = .stop →
              let due := match r.origin with
                | .schedule _ => r.due.getD now
                | _ => now
              recorded .idle ch.inFlight none r due))
    ∧ ∀ (c : Fin 16) (r : Request) (index check : Word) (late held : Nat) (u : Fin 8), r.origin = .trigger u →
      let entry := opt8 (r.entry.map w8)
      let cue := opt8 (r.cueIndex.map w8)
      let source : Half := (2 : Byte) ++ w8 c.val
      (Notice.fireCued c r index check).payload =
          [opt32 r.story, index, check, source ++ r.argument, frameOfBytes entry cue (w8 u.val) 0]
        ∧ (Notice.fireDone c r index late).payload =
          [ opt32 r.story, index, w16 late ++ r.argument, frameOfBytes (w8 c.val) 2 entry cue,
            frameOfBytes (w8 r.action.code) (w8 u.val) 0 0 ]
        ∧ (Notice.fireFault c r held).payload =
          [opt32 r.story, source ++ r.argument, frameOfBytes entry cue (w8 held) (w8 u.val), 0, 0]

/-! ### The presenter stations (R125 to R147) -/

/-- SET STATION, LAMP OVERRIDE, LAMP RELEASE, READ STATION and READ MARK: their refusals, what they store and what they reply.
LAMP commands change the override alone; the reads change nothing but their link. The computed lamp state is R140's and the
shown one R141's. That FOLLOW and INTERLOCK are 0 for off and 1 for on in SET STATION is the model's reading (log entry 6). -/
def Obligations.StationCommands : Prop :=
  ∀ (n : Fin 4) (k : Command) (f : Word) (s : State), s.completes n k f = true →
    let noStation (code : Byte) (row : Instr) : Prop := 2 ≤ k.sel.toNat → exec row s = .next (s.declined n code .badId (s.begun n))
    let computed (st : StationId) : LampState :=
      let x := s.station st
      if (s.pgmEntry?.bind fun e => e.station) = some st then
        if 0 < x.wrapLead ∧ ∃ r ∈ s.liveRemaining, r ≤ (x.wrapLead : Int) then .wrap else .onCue
      else if (s.armedEntry?.bind fun e => e.station) = some st then .standby
      else .dark
    let shown (st : StationId) : LampState := ((s.station st).override.map fun o => o.state).getD (computed st)
    (k.code = 0x50 → noStation 0x50 (.setStation n f)
        ∧ ∀ (w : Word) (st : StationId), k.data = [w] → k.sel = w8 (stationCode st) →
          let x := s.station st
          let field (i : Nat) := w.extractLsb' (8 * i) 8
          let named (i : Nat) (old new : Bool) : Prop := field i = 0xFF ∧ new = old ∨ field i = wBool new
          ((2 ≤ (field 2).toNat ∧ field 2 ≠ 0xFF) ∨ (2 ≤ (field 3).toNat ∧ field 3 ≠ 0xFF) →
            exec (.setStation n f) s = .next (s.declined n 0x50 .badArgument (s.begun n)))
          ∧ ∀ follow interlock, named 2 x.follow follow → named 3 x.interlock interlock →
            let lead := if k.operand = 0xFFFF then x.wrapLead else min k.operand.toNat 3000
            let step := if field 1 = 0xFF then x.step else max 1 (min (field 1).toNat 64)
            exec (.setStation n f) s = .next (s.answered n 0x50
              [ w8 step ++ field 0 ++ w16 lead, frameOfBytes (wBool follow) (wBool interlock) 0 0 ]
              (putStation st { x with wrapLead := lead, enables := field 0, step := step, follow := follow,
                                       interlock := interlock } (s.begun n))))
      ∧ (k.code = 0x52 → noStation 0x52 (.lampOverride n f)
        ∧ ∀ st : StationId, k.sel = w8 (stationCode st) →
          (4 ≤ k.operand.toNat → exec (.lampOverride n f) s = .next (s.declined n 0x52 .badArgument (s.begun n)))
          ∧ ∀ lamp : LampState, k.operand.toNat = lamp.code →
            exec (.lampOverride n f) s = .next (s.answered n 0x52
              [frameOfBytes (w8 (shown st).code) (w8 lamp.code) 0 0]
              (putStation st { s.station st with override := some { state := lamp, source := .director } } (s.begun n))))
      ∧ (k.code = 0x53 → noStation 0x53 (.lampRelease n f)
        ∧ ∀ st : StationId, k.sel = w8 (stationCode st) →
          exec (.lampRelease n f) s = .next (s.answered n 0x53
            [frameOfBytes (w8 (shown st).code) (w8 (computed st).code) 0 0]
            (putStation st { s.station st with override := none } (s.begun n))))
      ∧ (k.code = 0x54 → noStation 0x54 (.readStation n f)
        ∧ ∀ st : StationId, k.sel = w8 (stationCode st) →
          let x := s.station st
          let lit (on : List LampState) : Byte := wBool (on.contains (shown st))
          exec (.readStation n f) s = .next (s.answered n 0x54
            [ w32 x.position, opt32 (x.countRem.map fun r => BitVec.ofInt 32 (r + 2147483648)), opt32 x.pressIndex,
              opt32 (x.pressTime.map (labelWord s.clock.mode)),
              opt16 (x.countdown.map fun r => BitVec.ofInt 16 (r + 32768)) ++ w16 x.wrapLead,
              frameOfBytes (w8 x.direction.code) x.enables (w8 x.step) (wBool x.follow),
              frameOfBytes (wBool x.interlock) (w8 (computed st).code) (opt8 (x.override.map fun o => w8 o.state.code))
                (opt8 (x.override.map fun o => w8 o.source.code)),
              frameOfBytes (w8 (shown st).code) (lit [.standby]) (lit [.onCue, .wrap]) (lit [.wrap]),
              frameOfBytes (wBool x.pa) (wBool x.pb) (wBool x.readyLine) (wBool x.ready),
              frameOfBytes (w8 x.marks.length) (w8 (x.marks.filter fun m => m.state == .armed).length) 0 0 ] (s.begun n)))
      ∧ (k.code = 0x55 → noStation 0x55 (.readMark n f)
        ∧ ∀ st : StationId, k.sel = w8 (stationCode st) →
          let marks := (s.station st).marks
          let shows (ws : List Word) : Prop := exec (.readMark n f) s = .next (s.answered n 0x55 ws (s.begun n))
          (16 ≤ k.operand.toNat → exec (.readMark n f) s = .next (s.declined n 0x55 .badArgument (s.begun n)))
          ∧ (k.operand.toNat < 16 →
            (marks.length ≤ k.operand.toNat → shows [ BitVec.allOnes 32, BitVec.allOnes 32,
              (1 : Byte) ++ w8 marks.length ++ (0xFFFF : Half), BitVec.allOnes 32, 0x000000FF ])
            ∧ ∀ m, marks[k.operand.toNat]? = some m → shows [ m.story, w32 m.position,
                (0 : Byte) ++ w8 marks.length ++ m.argument,
                frameOfBytes (w8 m.entry) (w8 m.cueIndex) (w8 m.channel.val) (w8 m.action.code),
                frameOfBytes (w8 m.state.code) 0 0 0 ]))

/-- SET POSITION jumps to the position given, clamped: each ARMED mark above the old position and at or below the new one is
SKIPPED, with one record, and every other mark, and the direction, is left as it was. -/
def Obligations.SetPosition : Prop :=
  ∀ (n : Fin 4) (k : Command) (f w : Word) (s : State), s.completes n k f = true → k.code = 0x51 → k.data = [w] →
    (2 ≤ k.sel.toNat → exec (.setPosition n f) s = .next (s.declined n 0x51 .badId (s.begun n)))
      ∧ ∀ st : StationId, k.sel = w8 (stationCode st) →
        let x := s.station st
        let q := min w.toNat 1048575
        let passed (m : Mark) : Bool := m.state == .armed && decide (x.position < m.position) && decide (m.position ≤ q)
        let count := (x.marks.filter passed).length
        ∃ t, exec (.setPosition n f) s =
            .next (s.answered n 0x51 [w32 x.position, w32 q, frameOfBytes (w8 count) 0 0 0] t)
          ∧ t.station st = { x with
              position := q, marks := x.marks.map fun m => if passed m then { m with state := .skipped } else m }
          ∧ (∀ y, y ≠ st → t.station y = s.station y)
          ∧ t.asRun.next = s.asRun.next + w32 count
          ∧ (∀ m, (x.marks.filter passed).getLast? = some m → ∃ r, t.asRun.ring.getLast? = some r ∧ r.kind = .markSkipped
              ∧ r.entry = some m.entry ∧ r.story = some m.story ∧ r.cueIndex = some m.cueIndex ∧ r.channel = some m.channel)
          ∧ t = { s.begun n with stations := t.stations, asRun := t.asRun }

/-- ENCODER_EDGE: an edge whose condition is not enabled changes the line's level alone. A counted edge moves the position by
the step, clamped at both ends, and sets the direction; a forward move in NORMAL fires the marks it crosses, each with its
record and its request, delivered in list order, and in SAFE skips them with a SUPPRESSED record; any other counted edge
leaves the marks. Eight conditions are told apart by the line, its edge and the level of the other line; that they are bits 0
to 7 of the enables in R126's order is the model's reading (log entry 6). A lone MARK_PASSED unit is met where an increment
passes its position. -/
def Obligations.EncoderEdge : Prop :=
  ∀ (st : StationId) (line : EncoderLine) (rising : Bool) (s : State), s.rst = false →
    let x := s.station st
    let other := match line with
      | .pa => x.pb
      | .pb => x.pa
    let up : Bool := if line = .pa then rising != other else rising == other
    let number : Nat :=
      (if up then 0 else 4) + (match line, rising with
        | .pa, true => 0
        | .pb, true => 1
        | .pa, false => 2
        | .pb, false => 3)
    let edged : Station := match line with
      | .pa => { x with pa := rising }
      | .pb => { x with pb := rising }
    let q := if up then min (x.position + x.step) 1048575 else x.position - x.step
    (x.enables.getLsbD number = false → exec (.encoderEdge st line rising) s = .next (putStation st edged s))
      ∧ (x.enables.getLsbD number = true → s.triggersOff →
        let crossed (m : Mark) : Bool := m.state == .armed && decide (x.position < m.position) && decide (m.position ≤ q)
        let marks := x.marks.filter crossed
        let new : MarkState := if s.tkc.engine = .normal then .fired else .skipped
        let fired (m : Mark) (u : State) : State := deliver m.channel
          { origin := .mark, action := m.action, argument := m.argument, entry := some m.entry, story := some m.story,
            cueIndex := some m.cueIndex, due := none } u
        ∃ t, exec (.encoderEdge st line rising) s = .next t
          ∧ t.station st = { edged with
              position := q, direction := if up then .up else .down,
              marks := x.marks.map fun m => if crossed m then { m with state := new } else m }
          ∧ (∀ y, y ≠ st → t.station y = s.station y)
          ∧ (marks = [] → t.asRun = s.asRun ∧ t.channels = s.channels ∧ t.sched = s.sched)
          ∧ (s.tkc.engine = .normal → t.channels = (marks.foldl (fun u m => fired m u) s).channels
              ∧ (x.marks.length ≤ 16 → ∀ m ∈ marks, ∃ r ∈ t.asRun.ring, r.kind = .markFired ∧ r.entry = some m.entry
                  ∧ r.story = some m.story ∧ r.cueIndex = some m.cueIndex ∧ r.channel = some m.channel
                  ∧ r.frame = s.clock.frame ∧ r.value = 0))
          ∧ (s.tkc.engine = .safe → t.channels = s.channels ∧ t.asRun.next = s.asRun.next + w32 marks.length
              ∧ ∀ m, marks.getLast? = some m → ∃ r, t.asRun.ring.getLast? = some r ∧ r.kind = .suppressed
                  ∧ r.entry = some m.entry ∧ r.story = some m.story ∧ r.cueIndex = some m.cueIndex
                  ∧ r.channel = some m.channel ∧ r.value = 258)
          ∧ t.clock = s.clock ∧ t.store = s.store ∧ t.tkc = s.tkc ∧ t.tally = s.tally)
      ∧ (x.enables.getLsbD number = true → s.triggers.held = [] → ∀ (u : Fin 8) (y : StationId) (position : Nat), s.lone u →
        (s.triggers.units[u]).actsElsewhere → (s.triggers.units[u]).condition = .markPassed y position →
        let passed := y = st ∧ up = true ∧ x.position < position ∧ position ≤ q
        ∃ t, exec (.encoderEdge st line rising) s = .next t
          ∧ (passed → t.triggers.units[u] = (s.triggers.units[u]).acted)
          ∧ (¬passed → t.triggers.units[u] = s.triggers.units[u]))

/-- READY_PRESS stamps the frame and time of day in progress, sets READY and posts STATION_READY with the armed entry's id
where the armed entry names the station, and changes nothing else. That the notice carries its time of day as a label is the
model's reading (log entry 7). -/
def Obligations.ReadyPress : Prop :=
  ∀ (st : StationId) (s : State), s.rst = false →
    let armed := match s.armedEntry? with
      | some e => if e.station = some st then s.armedId else 0
      | none => 0
    exec (.readyPress st) s =
      .next (post (.stationReady st s.clock.frame (labelWord s.clock.mode s.clock.tod) armed)
        (putStation st { s.station st with ready := true, pressIndex := some s.clock.frame, pressTime := some s.clock.tod,
                                            readyLine := false } s))

/-! ### The trigger units (R148 to R162) -/

/-- SET TRIGGER checks its condition, action and mode, the first reason of BAD_ID, BAD_ARGUMENT and BAD_TIME refusing it (R149),
and stores them clamped, with the enable, the latch, the DROPPED mark and the spent flag clear and the time memory at the
comparison, and resets the group's sequence. ENABLE TRIGGER, DISABLE TRIGGER and SET CHAIN change what R150 and R151 say and
nothing else; READ TRIGGER changes nothing. A unit above 7, a group above 1, a length outside 1..4 and an ENABLE of a dropped
unit are refused. That the final unit of a chain of one shows its place as stage 0, and the places in the data frames that R195
leaves to the field order, are the model's reading (log entries 21 and 12). That SET TRIGGER takes a command whose operand, or
whose bits that R195 says are 0, are not 0, and disregards them, is the model's choice (log entry 40). -/
def Obligations.TriggerCommands : Prop :=
  ∀ (n : Fin 4) (k : Command) (f : Word) (s : State), s.completes n k f = true →
    let noUnit (row : Instr) : Prop := 8 ≤ k.sel.toNat → exec row s = .next (s.declined n k.code .badId (s.begun n))
    let fresh (c : Condition) : Bool := match c with
      | .time label mask => maskedEqual mask (labelOf s.clock.mode s.clock.tod) label
      | _ => false
    let byte (w : Word) (i : Nat) : Nat := (w.extractLsb' (8 * i) 8).toNat
    let frames (x : TriggerUnit) : List Word :=
      [ (match x.condition with
          | .never => 0
          | .time label _ => frameOfBytes (w8 label.ff) (w8 label.ss) (w8 label.mm) (w8 label.hh)
          | .entryOnAir id => w32 id
          | .entryDone id => w32 id
          | .remaining m => w32 m
          | .gpi i _ => w32 i.val
          | .markPassed _ p => w32 p),
        frameOfBytes (w8 (match x.condition with
          | .time _ mask => mask.code
          | .gpi _ rising => if rising then 0 else 1
          | .markPassed st _ => stationCode st
          | _ => 0)) (w8 x.mode.code) (w8 x.condition.code) (w8 x.action.code),
        (match x.action with
          | .fire ch a arg => arg ++ w8 a.code ++ w8 ch.val
          | .arm id => w32 id
          | .lamp st l => frameOfBytes (w8 (stationCode st)) (w8 l.code) 0 0
          | _ => 0) ]
    (k.code = 0x60 → noUnit (.setTrigger n f)
        ∧ ∀ (u : Fin 8) (a b c : Word), k.sel.toNat = u.val → k.data = [a, b, c] →
          let second := byte b 0
          let kind := byte b 2
          let acts := byte b 3
          let l := labelOfWord a
          let inRange := l.hh < 24 ∧ l.mm < 60 ∧ l.ss < 60 ∧ l.ff < s.clock.mode.rate
          let noId := ((kind = 2 ∨ kind = 3) ∧ s.names (byte a 0) = false) ∨ (kind = 5 ∧ 8 ≤ byte a 0)
            ∨ (kind = 6 ∧ 2 ≤ second) ∨ (acts = 1 ∧ 16 ≤ byte c 0) ∨ (acts = 3 ∧ s.names (byte c 0) = false)
            ∨ (acts = 4 ∧ 2 ≤ byte c 0)
          let noArgument := 7 ≤ kind ∨ (kind = 1 ∧ 4 ≤ second) ∨ (kind = 5 ∧ 2 ≤ second) ∨ 6 ≤ acts
            ∨ (acts = 1 ∧ 2 ≤ byte c 1) ∨ (acts = 4 ∧ 4 ≤ byte c 1) ∨ 2 ≤ byte b 1
          let refused (r : Reason) : Prop := exec (.setTrigger n f) s = .next (s.declined n 0x60 r (s.begun n))
          (noId → refused .badId) ∧ (¬noId → noArgument → refused .badArgument)
          ∧ (¬noId → ¬noArgument → kind = 1 → ¬inRange → refused .badTime)
          ∧ ∀ (cond : Condition) (act : Action) (mode : TriggerMode), byte b 1 = mode.code →
            (match cond with
              | .never => kind = 0
              | .time label mask => kind = 1 ∧ inRange ∧ label = promote s.clock.mode l ∧ second = mask.code
              | .entryOnAir id => kind = 2 ∧ id = byte a 0 ∧ s.names id = true
              | .entryDone id => kind = 3 ∧ id = byte a 0 ∧ s.names id = true
              | .remaining m => kind = 4 ∧ m = min a.toNat 131071
              | .gpi i rising => kind = 5 ∧ i.val = byte a 0 ∧ second = (if rising then 0 else 1)
              | .markPassed st p => kind = 6 ∧ second = stationCode st ∧ p = min a.toNat 1048575) →
            (match act with
              | .nothing => acts = 0
              | .fire ch x arg => acts = 1 ∧ ch.val = byte c 0 ∧ byte c 1 = x.code ∧ arg = c.extractLsb' 16 16
              | .take => acts = 2
              | .arm id => acts = 3 ∧ id = byte c 0 ∧ s.names id = true
              | .lamp st x => acts = 4 ∧ byte c 0 = stationCode st ∧ byte c 1 = x.code
              | .notify => acts = 5) →
            let x : TriggerUnit := { condition := cond, action := act, mode := mode, enable := false, latch := false,
                                     dropped := false, timeMemory := fresh cond, spent := false }
            ∃ t, exec (.setTrigger n f) s = .next (s.answered n 0x60 (frames x) t)
              ∧ t.triggers.units[u] = x
              ∧ (∀ v : Fin 8, v ≠ u → t.triggers.units[v] = { s.triggers.units[v] with latch :=
                  (s.triggers.units[v]).latch && !(groupOf v == groupOf u
                    && (stageIn (s.triggers.group v).chain v).isSome && !isFinal v) })
              ∧ t.triggers.groups = s.triggers.groups.set (groupOf u) { s.triggers.group u with stage := 0 }
              ∧ t = { s.begun n with triggers := { s.triggers with units := t.triggers.units, groups := t.triggers.groups } })
      ∧ (k.code = 0x61 → noUnit (.enableTrigger n f)
        ∧ ∀ u : Fin 8, k.sel.toNat = u.val →
          let x := s.triggers.units[u]
          (x.dropped = true → exec (.enableTrigger n f) s = .next (s.declined n 0x61 .state (s.begun n)))
          ∧ (x.dropped = false → exec (.enableTrigger n f) s = .next (s.answered n 0x61 [frameOfBytes (wBool x.enable) 1 0 0]
              (putUnit u { x with enable := true, timeMemory := if x.enable then x.timeMemory else fresh x.condition }
                (s.begun n)))))
      ∧ (k.code = 0x62 → noUnit (.disableTrigger n f)
        ∧ ∀ u : Fin 8, k.sel.toNat = u.val →
          let x := s.triggers.units[u]
          exec (.disableTrigger n f) s = .next (s.answered n 0x62 [frameOfBytes (wBool x.enable) 0 0 0]
            (putUnit u { x with enable := false } (s.begun n))))
      ∧ (k.code = 0x63 →
        (2 ≤ k.sel.toNat → exec (.setChain n f) s = .next (s.declined n 0x63 .badId (s.begun n)))
        ∧ ∀ g : Fin 2, k.sel.toNat = g.val →
          let length := k.operand.toNat
          (length = 0 ∨ 4 < length → exec (.setChain n f) s = .next (s.declined n 0x63 .badArgument (s.begun n)))
          ∧ (1 ≤ length → length ≤ 4 →
            ∃ t, exec (.setChain n f) s =
                .next (s.answered n 0x63 [frameOfBytes (w8 (s.triggers.groups[g]).chain) (w8 length) 0 0] t)
              ∧ t.triggers.groups = s.triggers.groups.set g { chain := length, stage := 0 }
              ∧ (∀ v : Fin 8, t.triggers.units[v] =
                  if groupOf v = g then { s.triggers.units[v] with latch := false } else s.triggers.units[v])
              ∧ t = { s.begun n with triggers := { s.triggers with units := t.triggers.units, groups := t.triggers.groups } }))
      ∧ (k.code = 0x64 → noUnit (.readTrigger n f)
        ∧ ∀ u : Fin 8, k.sel.toNat = u.val →
          let x := s.triggers.units[u]
          let g := s.triggers.group u
          let place : Nat := if 4 ≤ u.val % 4 + g.chain then u.val % 4 + g.chain - 4 else 4
          exec (.readTrigger n f) s = .next (s.answered n 0x64
            (frames x ++
              [ frameOfBytes (wBool x.enable) (wBool x.dropped) (wBool x.latch) (wBool x.timeMemory),
                frameOfBytes (wBool x.spent) (w8 g.chain) (w8 g.stage)
                  (w8 (if g.chain ≤ 4 then place else (stageIn g.chain u).getD 4)),
                frameOfBytes (wBool (u.val % 4 == 3)) 0 0 0 ]) (s.begun n)))

/-- GPI_EDGE gives the input its new level (R165). With no unit enabled nothing else changes. The one enabled unit, waiting for
the edge and standing alone, is latched and acts once: a FIRE goes to its channel, a LAMP overrides its station, a NOTICE is
posted (its time of day as a label is the model's reading: log entry 7), an ARM arms an eligible entry, a TAKE takes the armed
entry, whose reset clears the latch, or records TAKE_EMPTY; in SAFE a FIRE, ARM or TAKE is SUPPRESSED with the unit's number; a
SINGLE unit is then off. In a sequence it is passed over away from the current stage, advances the stage at it, and as the
final unit acts and resets the sequence. -/
def Obligations.GpiEdge : Prop :=
  ∀ (i : Fin 8) (rising : Bool) (s : State), s.rst = false → s.triggers.held = [] → groupsSound s →
    let levels : Byte := if rising then s.tally.gpi ||| (1#8 <<< i.val) else s.tally.gpi &&& ~~~(1#8 <<< i.val)
    let newest (t : State) (kind : AsRunKind) (entry : Option Nat) (channel : Option (Fin 16)) (value : Nat) : Prop :=
      t.asRun.next = s.asRun.next + 1 ∧ ∃ r, t.asRun.ring.getLast? = some r ∧ r.kind = kind ∧ r.entry = entry
        ∧ r.channel = channel ∧ r.value = value
    (s.triggersOff → exec (.gpiEdge i rising) s = .next { s with tally := { s.tally with gpi := levels } })
      ∧ ∀ u : Fin 8,
        let x := s.triggers.units[u]
        let g := s.triggers.group u
        s.sole u → x.condition = .gpi i rising →
        ∃ t, exec (.gpiEdge i rising) s = .next t ∧ t.tally = { s.tally with gpi := levels } ∧ t.clock = s.clock
          ∧ (x.actsElsewhere → t.store = s.store ∧ t.tkc = s.tkc)
          ∧ (stageIn g.chain u = none → x.actsElsewhere → t.triggers.units[u] = x.acted
            ∧ (∀ v : Fin 8, v ≠ u → t.triggers.units[v] = s.triggers.units[v])
            ∧ (∀ st l, x.action = .lamp st l → (t.station st).override = some { state := l, source := .trigger })
            ∧ (∀ c a arg, x.action = .fire c a arg → s.tkc.engine = .normal →
                t.channels = (deliver c { origin := .trigger u, action := a, argument := arg, entry := none, story := none,
                                          cueIndex := none, due := none } s).channels)
            ∧ (∀ c a arg, x.action = .fire c a arg → s.tkc.engine = .safe →
                t.channels = s.channels ∧ newest t .suppressed none (some c) u.val)
            ∧ (x.action = .notify → t.links = (post (.triggerFired u 5 s.clock.frame (labelWord s.clock.mode s.clock.tod)
                (if u.val % 4 = 3 then 0 else g.stage)) s).links))
          ∧ (stageIn g.chain u = none → x.action = .take →
            (s.tkc.engine = .safe → t.tkc = s.tkc ∧ newest t .suppressed none none u.val ∧ t.triggers.units[u] = x.acted)
            ∧ (s.tkc.engine = .normal → s.tkc.armed = none →
                t.tkc = s.tkc ∧ newest t .takeEmpty none none u.val ∧ t.triggers.units[u] = x.acted)
            ∧ (s.tkc.engine = .normal → s.store.sound → armedSlotSound s → onAirSlotsSound s → ∀ a, s.tkc.armed = some a →
                (t.tkc.pgm.map fun p => p.id) = some a.id ∧ t.tkc.lastLength = s.tkc.lastLength
                ∧ t.triggers.units[u] = { x.acted with latch := false, spent := false }))
          ∧ (∀ id, stageIn g.chain u = none → x.action = .arm id → t.triggers.units[u] = x.acted
            ∧ (s.tkc.engine = .safe → t.tkc = s.tkc ∧ newest t .suppressed (some id) none u.val)
            ∧ (s.tkc.engine = .normal → t.asRun = s.asRun
              ∧ ((∃ e, s.entry? id = some e ∧ e.state = .ready ∧ e.float = false) →
                  t.tkc = { s.tkc with armed := some { id := id, tag := .manual }, holdArm := false })
              ∧ (¬(∃ e, s.entry? id = some e ∧ e.state = .ready ∧ e.float = false) → t.tkc = s.tkc ∧ t.store = s.store)))
          ∧ ∀ j, stageIn g.chain u = some j →
            (j ≠ g.stage → t.triggers = s.triggers ∧ t.asRun = s.asRun ∧ t.channels = s.channels ∧ t.tkc = s.tkc)
            ∧ (j = g.stage → u.val % 4 ≠ 3 → t.tkc = s.tkc ∧ t.asRun = s.asRun ∧ t.channels = s.channels
              ∧ t.triggers = { s.triggers with units := s.triggers.units.set u { x with latch := true },
                                                groups := s.triggers.groups.set (groupOf u) { g with stage := g.stage + 1 } })
            ∧ (j = g.stage → u.val % 4 = 3 → x.actsElsewhere → t.triggers.units[u] = x.acted
              ∧ t.triggers.groups = s.triggers.groups.set (groupOf u) { g with stage := 0 }
              ∧ ∀ v : Fin 8, v ≠ u → t.triggers.units[v] = { s.triggers.units[v] with latch :=
                  (s.triggers.units[v]).latch && !(groupOf v == groupOf u && (stageIn g.chain v).isSome && v.val % 4 != 3) })

/-! ### The tally matrix (R163 to R169) -/

/-- SET TALLY is refused for an output above 23 and for a selector that names no source, and stores the selectors, their
parameters clamped, F and the threshold, leaving those given as all ones; READ TALLY changes nothing. Both show the output's
level: bit 4·A + 2·B + C of F, with the truth values of its selectors, which are R164's. That CH_ACTIVE is R164's also after a
STOP CHANNEL of a channel in FIRED is the model's choice (log entry 47). -/
def Obligations.TallyCommands : Prop :=
  ∀ (n : Fin 4) (k : Command) (f : Word) (s : State), s.completes n k f = true →
    let bit (t : State) (o : TallyOutput) : Nat :=
      4 * (if o.a.truth t then 1 else 0) + 2 * (if o.b.truth t then 1 else 0) + (if o.c.truth t then 1 else 0)
    let shown (o : TallyOutput) (threshold : Nat) (rest : List Byte) : List Word :=
      (w8 o.a.parameter ++ w8 o.a.code ++ w16 threshold)
        :: frameOfBytes (w8 o.b.code) (w8 o.b.parameter) (w8 o.c.code) (w8 o.c.parameter) :: packBytes (o.f :: rest)
    let current (t : State) : Option Machine.SegmentFigures := t.timing.published.segments.head?.bind fun g => g.closed
    (∀ (t : State) (x : Source), x.truth t = true ↔ match x with
        | .const0 => False
        | .pgmKind y => ∃ e, t.pgmEntry? = some e ∧ e.kind = y
        | .armKind y => ∃ e, t.armedEntry? = some e ∧ e.kind = y
        | .transition => t.tkc.out ≠ none
        | .chActive c => (t.channel c).state ≠ .idle ∧ (t.channel c).state ≠ .fault
        | .chFault c => (t.channel c).state = .fault ∨ (t.channel c).faultLatch = true
        | .lamp st l => shownLamp t st = l
        | .safe => t.tkc.engine = .safe
        | .gpi i => t.tally.gpi.getLsbD i.val = true
        | .over => ∃ g, current t = some g ∧ 0 < g.residual
        | .under => ∃ g, current t = some g ∧ t.tally.threshold < g.fill
        | .refLost => t.clock.ref = .lost
        | .trig u => (t.triggers.units[u]).latch = true)
      ∧ (∀ (t : State) (i : Fin 24), t.tallyLevel i = (t.tally.outputs[i]).f.getLsbD (bit t t.tally.outputs[i]))
      ∧ (k.code = 0x70 → ∀ w v : Word, k.data = [w, v] →
        (24 ≤ k.sel.toNat → exec (.setTally n f) s = .next (s.declined n 0x70 .badId (s.begun n)))
        ∧ ∀ i : Fin 24, k.sel.toNat = i.val →
          let old := s.tally.outputs[i]
          let bad (h : Half) : Prop := h ≠ 0xFFFF ∧ 13 ≤ (h.extractLsb' 0 8).toNat
          let names (code p : Nat) (x : Source) : Prop := code = x.code ∧ match x with
            | .pgmKind y => y.code = min p 3
            | .armKind y => y.code = min p 3
            | .chActive c => c.val = min p 15
            | .chFault c => c.val = min p 15
            | .lamp st l => stationCode st = min (p / 16) 1 ∧ l.code = min (p % 16) 3
            | .gpi j => j.val = min p 7
            | .trig u => u.val = min p 7
            | _ => True
          let is (h : Half) (was now : Source) : Prop :=
            (h = 0xFFFF ∧ now = was) ∨ (h ≠ 0xFFFF ∧ names (h.extractLsb' 0 8).toNat (h.extractLsb' 8 8).toNat now)
          (bad (w.extractLsb' 0 16) ∨ bad (w.extractLsb' 16 16) ∨ bad (v.extractLsb' 0 16) →
            exec (.setTally n f) s = .next (s.declined n 0x70 .badArgument (s.begun n)))
          ∧ ∀ a b c : Source, is (w.extractLsb' 0 16) old.a a → is (w.extractLsb' 16 16) old.b b →
            is (v.extractLsb' 0 16) old.c c →
            let o : TallyOutput := { a := a, b := b, c := c, f := v.extractLsb' 16 8 }
            let threshold := if k.operand = 0xFFFF then s.tally.threshold else min k.operand.toNat 30000
            let t : State := { s.begun n with tally :=
              { s.tally with outputs := s.tally.outputs.set i o, threshold := threshold } }
            exec (.setTally n f) s = .next (s.answered n 0x70 (shown o threshold [wBool (o.f.getLsbD (bit t o))]) t))
      ∧ (k.code = 0x71 →
        (24 ≤ k.sel.toNat → exec (.readTally n f) s = .next (s.declined n 0x71 .badId (s.begun n)))
        ∧ ∀ i : Fin 24, k.sel.toNat = i.val →
          let o := s.tally.outputs[i]
          exec (.readTally n f) s = .next (s.answered n 0x71
            (s.tallyLevels :: shown o s.tally.threshold
              [wBool (o.a.truth s), wBool (o.b.truth s), wBool (o.c.truth s), w8 (bit s o), wBool (s.tallyLevel i)])
            (s.begun n)))

/-! ### The as-run record (R178 to R182) -/

/-- READ AS-RUN by R181's four cases, on a ring of consecutive sequence numbers: END on an empty ring and at or after the next
number, the record asked for where it is present, and GAP with the oldest record and the number lost where it is older. It is
open to every role and changes nothing but its link. -/
def Obligations.ReadAsRun : Prop :=
  (∀ r : Role, opens 0x80 r = true) ∧ ∀ (n : Fin 4) (k : Command) (f q : Word) (s : State), s.completes n k f = true → k.code = 0x80 → k.data = [q] →
    s.asRun.sound →
    let count := s.asRun.ring.length
    let oldest := s.asRun.next - w32 count
    let all : Word := BitVec.allOnes 32
    let answers (head : List Word) (lost : Word) (kind status : Byte) (tail : Word) : Prop :=
      exec (.readAsRun n f) s = .next (s.answered n 0x80
        (head ++ [oldest, s.asRun.next, lost, kind ++ status ++ w16 count, tail]) (s.begun n))
    let returns (r : AsRunRecord) (status : Byte) (lost : Word) : Prop :=
      answers [r.sequence, r.frame, w32 r.tod, w32 r.value, opt32 r.story] lost (w8 r.kind.code) status
        (frameOfBytes (opt8 (r.entry.map w8)) (opt8 (r.channel.map fun c => w8 c.val)) (w8 r.mode.code) 0)
    let ends : Prop := answers [all, all, all, all, all] all 0xFF 1 (frameOfBytes 0xFF 0xFF 0xFF 0)
    (count = 0 → ends)
      ∧ (count ≠ 0 → (q - oldest).toNat < count → ∃ r ∈ s.asRun.ring, r.sequence = q ∧ returns r 0 all)
      ∧ (count ≠ 0 → count ≤ (q - oldest).toNat → (q - s.asRun.next).toNat < 2 ^ 31 → ends)
      ∧ (count ≠ 0 → count ≤ (q - oldest).toNat → 2 ^ 31 ≤ (q - s.asRun.next).toNat →
          ∃ r, s.asRun.ring.head? = some r ∧ r.sequence = oldest ∧ returns r 2 (oldest - q))

/-! ### Links and notices (R183 to R202) -/

/-- R198: what a link makes of a notice that is posted: its level, level 0, the coalescing kinds, a queue with room, and a full
queue, from which the oldest notice of the lowest level goes where the arriving one stands above it or is an ALERT. R199: LAT is
asserted exactly while the queue holds a notice above the mask, or an ALERT. -/
def Obligations.NoticeAdmission : Prop :=
  (∀ l : Link, l.lat = true ↔ ∃ q ∈ l.queue, l.mask < q.level ∨ q.notice.kind = .alert)
    ∧ ∀ (l : Link) (k : Notice),
    let level := if k.kind = .alert then 8 else l.levels.toList.getD k.kind.code 0
    let q : Queued := { notice := k, level := level }
    let coalesces := k.kind.coalescing = true ∧ ∃ p ∈ l.queue, p.notice.kind = k.kind
    (level = 0 → l.queueNotice k = l)
      ∧ (level ≠ 0 → coalesces →
          l.queueNotice k = { l with queue := l.queue.map fun p => if p.notice.kind = k.kind then q else p })
      ∧ (level ≠ 0 → ¬coalesces → l.queue.length < 16 → l.queueNotice k = { l with queue := l.queue ++ [q] })
      ∧ (level ≠ 0 → ¬coalesces → 16 ≤ l.queue.length →
          ∀ (before after : List Queued) (low : Queued), l.queue = before ++ low :: after →
            (∀ p ∈ before, low.level < p.level) → (∀ p ∈ after, low.level ≤ p.level) →
            let lost := { l with flags := l.flags ||| 0x40 }
            (low.level < level ∨ k.kind = .alert → l.queueNotice k = { lost with queue := before ++ after ++ [q] })
              ∧ (level ≤ low.level → k.kind ≠ .alert → l.queueNotice k = lost))

/-- R201: NEXT NOTICE on an empty queue returns NONE; with four masks saved it is refused with NEST_FULL; else it removes and
returns the oldest notice of the highest level, saves the mask and raises it. REPEAT NOTICE returns the held notice and
changes nothing. That the header of NONE has 0 in the level's byte is the model's choice (log entry 43). -/
def Obligations.FetchNotice : Prop :=
  ∀ (n : Fin 4) (k : Command) (f : Word) (s : State), s.completes n k f = true →
    let l := (s.begun n).link n
    (k.code = 0x90 →
      (l.queue = [] → exec (.nextNotice n f) s = .next (s.answered n 0x90
          ((w8 l.mask ++ (0 : Byte) ++ (0 : Byte) ++ (0 : Byte)) :: List.replicate 5 0)
          (putLink n { l with heldNotice := some .none } (s.begun n))))
      ∧ (l.queue ≠ [] → 4 ≤ l.stack.length → exec (.nextNotice n f) s = .next (s.declined n 0x90 .nestFull (s.begun n)))
      ∧ (l.stack.length < 4 → ∀ (before after : List Queued) (q : Queued), l.queue = before ++ q :: after →
          (∀ p ∈ before, p.level < q.level) → (∀ p ∈ after, p.level ≤ q.level) →
          let mask := if q.notice.kind = .alert then 7 else q.level
          exec (.nextNotice n f) s = .next (s.answered n 0x90
            ((w8 mask ++ w8 (before ++ after).length ++ w8 q.level ++ w8 q.notice.kind.code) :: q.notice.payload)
            (putLink n { l with queue := before ++ after, stack := l.stack ++ [l.mask], mask := mask,
                                heldNotice := some (.notice q) } (s.begun n)))))
      ∧ (k.code = 0x91 →
        (∀ q, l.heldNotice = some (.notice q) → exec (.repeatNotice n f) s = .next (s.answered n 0x91
          ((w8 l.mask ++ w8 l.queue.length ++ w8 q.level ++ w8 q.notice.kind.code) :: q.notice.payload) (s.begun n)))
        ∧ (l.heldNotice = none ∨ l.heldNotice = some .none → exec (.repeatNotice n f) s = .next (s.answered n 0x91
          ((w8 l.mask ++ w8 l.queue.length ++ (0 : Byte) ++ (0 : Byte)) :: List.replicate 5 0) (s.begun n))))

/-- SET LEVELS, SET MASK, NOTICE DONE, READ LINK and CLEAR LINK FLAGS: what each stores, refuses and replies. They change
their own link alone. -/
def Obligations.LinkSettings : Prop :=
  ∀ (n : Fin 4) (k : Command) (f : Word) (s : State), s.completes n k f = true →
    let l := (s.begun n).link n
    (k.code = 0x94 →
      (21 ≤ k.sel.toNat → exec (.setLevels n f) s = .next (s.declined n 0x94 .badArgument (s.begun n)))
      ∧ (k.sel.toNat = 20 → exec (.setLevels n f) s = .next (s.answered n 0x94 [frameOfBytes 8 8 0 0] (s.begun n)))
      ∧ ∀ i : Fin 21, 1 ≤ i.val → i.val < 20 → k.sel.toNat = i.val →
        let level := min k.operand.toNat 7
        exec (.setLevels n f) s = .next (s.answered n 0x94 [frameOfBytes (w8 l.levels[i]) (w8 level) 0 0]
          (putLink n { l with levels := l.levels.set i level } (s.begun n))))
      ∧ (k.code = 0x93 →
        let mask := min k.operand.toNat 7
        exec (.setMask n f) s = .next (s.answered n 0x93 [frameOfBytes (w8 l.mask) (w8 mask) 0 0]
          (putLink n { l with mask := mask } (s.begun n))))
      ∧ (k.code = 0x92 →
        (l.stack = [] → exec (.noticeDone n f) s = .next (s.answered n 0x92 [frameOfBytes (w8 l.mask) 0 0 0]
          (putLink n { l with mask := 0 } (s.begun n))))
        ∧ ∀ (older : List Nat) (newest : Nat), l.stack = older ++ [newest] →
          exec (.noticeDone n f) s = .next (s.answered n 0x92 [frameOfBytes (w8 l.mask) (w8 newest) (w8 older.length) 0]
            (putLink n { l with mask := newest, stack := older } (s.begun n))))
      ∧ (k.code = 0x95 →
        let level (i : Fin 21) : Byte := if i = 20 then 8 else w8 l.levels[i]
        let saved (i : Nat) : Byte := opt8 ((l.stack[i]?).map w8)
        exec (.readLink n f) s = .next (s.answered n 0x95
          [ frameOfBytes l.flags (w8 l.role.code) (w8 l.mask) (w8 l.stack.length),
            frameOfBytes (saved 0) (saved 1) (saved 2) (saved 3),
            frameOfBytes (w8 l.queue.length) (wBool l.heldNotice.isSome) (level 1) (level 2),
            frameOfBytes (level 3) (level 4) (level 5) (level 6), frameOfBytes (level 7) (level 8) (level 9) (level 10),
            frameOfBytes (level 11) (level 12) (level 13) (level 14),
            frameOfBytes (level 15) (level 16) (level 17) (level 18), frameOfBytes (level 19) (level 20) 0 0 ] (s.begun n)))
      ∧ (k.code = 0x96 →
        let flags := l.flags &&& ~~~(k.operand.extractLsb' 0 8 &&& 0x7F)
        exec (.clearLinkFlags n f) s = .next (s.answered n 0x96 [frameOfBytes l.flags flags 0 0]
          (putLink n { l with flags := flags } (s.begun n))))

/-- The rows at which no command is taken, with RST released and no frame to disregard: a NOP in command position is taken as
nothing; a frame that names no command is refused with BAD_COMMAND; a command's first frame and its earlier data frames
move the receiver on; an all-ones frame is held; a second one resynchronises the link and changes no other block. The frame
received alongside the resynchronisation frame is disregarded whatever it holds and in whatever row it comes, and leaves the
link in the position it had, which after a resynchronisation is command position. A frame held in command position is
discarded with FRAMING, one held in data position is data. And the role check, over every
command row: a command that R189 does not open to the link's role is refused with NOT_PERMITTED, and changes its link
alone. -/
def Obligations.LinkRows : Prop :=
  (∀ (n : Fin 4) (f : Word) (s : State), s.rst = false → (s.link n).disregard = false →
    let l := s.link n
    let ends (x : Link) : State := putLink n { x with
      out := match x.reply with
        | [] => { kind := .idle, word := BitVec.allOnes 32 }
        | o :: _ => o,
      reply := x.reply.tail, frames := x.frames + 1 } s
    (f ≠ allOnesFrame → l.receiver = .command →
      let x := if l.held then { l with held := false, flags := l.flags ||| 0x20 } else l
      (frameCode f = 0 → exec (.nop n f) s = .next (ends x))
      ∧ (frameCode f ≠ 0 → commandRow? (frameCode f) = none →
          exec (.unknownCommand n f) s = .next (s.declined n (frameCode f) .badCommand (s.begun n)))
      ∧ ∀ owed, dataFramesOf (frameCode f) = owed + 1 →
          exec (.dataFrame n f) s = .next (ends { x.cutReply with
            receiver := .data { code := frameCode f, sel := frameSelector f, operand := frameOperand f, data := [] }
              (owed + 1) }))
      ∧ (f ≠ allOnesFrame → ∀ (k : Command) (owed : Nat),
        (l.held = false → l.receiver = .data k (owed + 2) → exec (.dataFrame n f) s =
          .next (ends { l with receiver := .data { k with data := k.data ++ [f] } (owed + 1) }))
        ∧ (l.held = true → l.receiver = .data k (owed + 3) → exec (.dataFrame n f) s =
          .next (ends { l with held := false, receiver := .data { k with data := k.data ++ [allOnesFrame, f] } (owed + 1) })))
      ∧ (l.held = false → exec (.allOnesFrameHeld n) s = .next (ends { l with held := true }))
      ∧ (l.held = true → exec (.linkResync n) s = .next (putLink n
          { l with
            receiver := .command, held := false, disregard := true, reply := [], frames := l.frames + 1,
            out := { kind := .resync,
                     word := w8 l.mask ++ w8 l.queue.length ++ w8 l.role.code ++ l.flags } } s)))
    ∧ (∀ (n : Fin 4) (f : Word) (s : State) (i : Instr), s.rst = false → (s.link n).disregard = true →
        i ∈ [.nop n f, .unknownCommand n f, .dataFrame n f, .allOnesFrameHeld n, .linkResync n]
          ∨ (∃ code, rowOfCode code n f = some i) →
        let l := s.link n
        exec i s = .next (putLink n
          { l with
            disregard := false, reply := l.reply.tail, frames := l.frames + 1,
            out := match l.reply with
              | [] => { kind := .idle, word := BitVec.allOnes 32 }
              | o :: _ => o } s))
    ∧
      let everyRole : List Byte := [0x01, 0x14, 0x19, 0x1A, 0x28, 0x30, 0x31, 0x40, 0x45, 0x54, 0x55, 0x64, 0x71, 0x80, 0x90,
        0x91, 0x92, 0x93, 0x94, 0x95, 0x96]
      let further (r : Role) : List Byte := match r with
        | .newsroom => [0x10, 0x11, 0x12, 0x13, 0x15, 0x16, 0x17, 0x18, 0x1B, 0x02, 0x05]
        | .director => [0x20, 0x21, 0x22, 0x23, 0x24, 0x25, 0x15, 0x16, 0x26, 0x27, 0x03, 0x04, 0x02, 0x32, 0x42, 0x43, 0x41,
            0x52, 0x53, 0x60, 0x61, 0x62, 0x63, 0x70]
        | .playout => [0x1C, 0x44, 0x41]
        | .prompter => [0x50, 0x51]
      (∀ (code : Byte) (r : Role), code ≠ 0 → (opens code r = true ↔ code ∈ everyRole ∨ code ∈ further r))
      ∧ ∀ (n : Fin 4) (k : Command) (f : Word) (s : State) (i : Instr), s.framed n k f = true →
        rowOfCode k.code n f = some i → k.code ∉ everyRole → k.code ∉ further (s.link n).role →
        exec i s = .next (s.declined n k.code .notPermitted (s.begun n))

/-! ### Invariants of the other blocks -/

/-- Every step keeps each block sound: a channel holds a request in flight in CUEING, HOLD and FIRED alone; a group's stage lies
within its chain; the ring holds at most 256 records of consecutive sequence numbers; each station's position and marks
are in range and in order. -/
def Obligations.StepKeepsTheBlocksSound : Prop :=
  ∀ s t : State, step s = .next t →
    (channelsSound s → channelsSound t) ∧ (groupsSound s → groupsSound t) ∧ (s.asRun.sound → t.asRun.sound)
      ∧ (stationsSound s → stationsSound t)

/-- Every step keeps the links sound: at most 16 notices queued, at most one of each coalescing kind, ALERT at level 8 and any
other at 1..7, at most four masks saved, and levels and masks in 0..7. -/
def Obligations.StepKeepsTheLinksSound : Prop :=
  ∀ s t : State, linksSound s → step s = .next t → linksSound t

/-- The state after power-on is sound in every block, and nothing of a row is half done in it. -/
def Obligations.ResetIsSound : Prop :=
  State.reset.clock.sound ∧ State.reset.store.sound ∧ armedSlotSound State.reset ∧ onAirSlotsSound State.reset
    ∧ transitionSound State.reset ∧ channelsSound State.reset ∧ groupsSound State.reset ∧ State.reset.asRun.sound ∧ stationsSound State.reset
    ∧ linksSound State.reset ∧ State.reset.quiet
end

