-- ==== Sys2Proof/Laws/State.lean ====
section
/-! SUPPORT. One lemma per field per update of the state: what each named update leaves and what it writes; and, said once, what
a frame edge does to the outgoing slot (R48, R60). -/

namespace Sys2Proof.Machine

/-! ### post: only the links change (section 11.5) -/

@[simp] theorem post_rst (k : Notice) (s : State) : (post k s).rst = s.rst := by unfold post; split <;> rfl
@[simp] theorem post_clock (k : Notice) (s : State) : (post k s).clock = s.clock := by unfold post; split <;> rfl
@[simp] theorem post_store (k : Notice) (s : State) : (post k s).store = s.store := by unfold post; split <;> rfl
@[simp] theorem post_tkc (k : Notice) (s : State) : (post k s).tkc = s.tkc := by unfold post; split <;> rfl
@[simp] theorem post_timing (k : Notice) (s : State) : (post k s).timing = s.timing := by unfold post; split <;> rfl
@[simp] theorem post_sched (k : Notice) (s : State) : (post k s).sched = s.sched := by unfold post; split <;> rfl
@[simp] theorem post_channels (k : Notice) (s : State) : (post k s).channels = s.channels := by unfold post; split <;> rfl
@[simp] theorem post_stations (k : Notice) (s : State) : (post k s).stations = s.stations := by unfold post; split <;> rfl
@[simp] theorem post_triggers (k : Notice) (s : State) : (post k s).triggers = s.triggers := by unfold post; split <;> rfl
@[simp] theorem post_tally (k : Notice) (s : State) : (post k s).tally = s.tally := by unfold post; split <;> rfl
@[simp] theorem post_asRun (k : Notice) (s : State) : (post k s).asRun = s.asRun := by unfold post; split <;> rfl
@[simp] theorem post_links (k : Notice) (s : State) :
    (post k s).links = if s.rst then s.links else mapTable (fun _ l => l.queueNotice k) s.links := by unfold post; split <;> simp_all
@[simp] theorem post_edge (k : Notice) (s : State) : (post k s).edge = s.edge := by unfold post; split <;> rfl
@[simp] theorem post_owed (k : Notice) (s : State) : (post k s).owed = s.owed := by unfold post; split <;> rfl
@[simp] theorem post_pending (k : Notice) (s : State) : (post k s).pending = s.pending := by unfold post; split <;> rfl

/-! ### appendRecord and append: only the as-run record changes (R180) -/

section

variable (kind : AsRunKind) (entry : Option Nat) (story : Option Word) (channel : Option (Fin 16)) (cueIndex : Option Nat) (trigger : Option (Fin 8))
  (value : Nat) (s : State)

@[simp] theorem appendRecord_rst : (appendRecord kind entry story channel cueIndex trigger value s).rst = s.rst := rfl
@[simp] theorem appendRecord_clock : (appendRecord kind entry story channel cueIndex trigger value s).clock = s.clock := rfl
@[simp] theorem appendRecord_store : (appendRecord kind entry story channel cueIndex trigger value s).store = s.store := rfl
@[simp] theorem appendRecord_tkc : (appendRecord kind entry story channel cueIndex trigger value s).tkc = s.tkc := rfl
@[simp] theorem appendRecord_timing : (appendRecord kind entry story channel cueIndex trigger value s).timing = s.timing := rfl
@[simp] theorem appendRecord_sched : (appendRecord kind entry story channel cueIndex trigger value s).sched = s.sched := rfl
@[simp] theorem appendRecord_channels : (appendRecord kind entry story channel cueIndex trigger value s).channels = s.channels := rfl
@[simp] theorem appendRecord_stations : (appendRecord kind entry story channel cueIndex trigger value s).stations = s.stations := rfl
@[simp] theorem appendRecord_triggers : (appendRecord kind entry story channel cueIndex trigger value s).triggers = s.triggers := rfl
@[simp] theorem appendRecord_tally : (appendRecord kind entry story channel cueIndex trigger value s).tally = s.tally := rfl
@[simp] theorem appendRecord_links : (appendRecord kind entry story channel cueIndex trigger value s).links = s.links := rfl
@[simp] theorem appendRecord_edge : (appendRecord kind entry story channel cueIndex trigger value s).edge = s.edge := rfl
@[simp] theorem appendRecord_owed : (appendRecord kind entry story channel cueIndex trigger value s).owed = s.owed := rfl
@[simp] theorem appendRecord_pending : (appendRecord kind entry story channel cueIndex trigger value s).pending = s.pending := rfl
@[simp] theorem append_rst : (append kind entry story channel value s).rst = s.rst := rfl
@[simp] theorem append_clock : (append kind entry story channel value s).clock = s.clock := rfl
@[simp] theorem append_store : (append kind entry story channel value s).store = s.store := rfl
@[simp] theorem append_tkc : (append kind entry story channel value s).tkc = s.tkc := rfl
@[simp] theorem append_timing : (append kind entry story channel value s).timing = s.timing := rfl
@[simp] theorem append_sched : (append kind entry story channel value s).sched = s.sched := rfl
@[simp] theorem append_channels : (append kind entry story channel value s).channels = s.channels := rfl
@[simp] theorem append_stations : (append kind entry story channel value s).stations = s.stations := rfl
@[simp] theorem append_triggers : (append kind entry story channel value s).triggers = s.triggers := rfl
@[simp] theorem append_tally : (append kind entry story channel value s).tally = s.tally := rfl
@[simp] theorem append_links : (append kind entry story channel value s).links = s.links := rfl
@[simp] theorem append_edge : (append kind entry story channel value s).edge = s.edge := rfl
@[simp] theorem append_owed : (append kind entry story channel value s).owed = s.owed := rfl
@[simp] theorem append_pending : (append kind entry story channel value s).pending = s.pending := rfl

/-- Every record takes the next sequence number (R180). -/
@[simp] theorem appendRecord_next : (appendRecord kind entry story channel cueIndex trigger value s).asRun.next = s.asRun.next + 1 := rfl
@[simp] theorem append_next : (append kind entry story channel value s).asRun.next = s.asRun.next + 1 := rfl

end

/-! ### updateEntry -/

@[simp] theorem updateEntry_rst (id : Nat) (g : Entry → Entry) (s : State) : (updateEntry id g s).rst = s.rst := rfl
@[simp] theorem updateEntry_clock (id : Nat) (g : Entry → Entry) (s : State) :
    (updateEntry id g s).clock = s.clock := rfl
@[simp] theorem updateEntry_store (id : Nat) (g : Entry → Entry) (s : State) :
    (updateEntry id g s).store = { s.store with order := s.store.order.map fun e => if e.id = id then g e else e } := rfl
@[simp] theorem updateEntry_tkc (id : Nat) (g : Entry → Entry) (s : State) : (updateEntry id g s).tkc = s.tkc := rfl
@[simp] theorem updateEntry_timing (id : Nat) (g : Entry → Entry) (s : State) :
    (updateEntry id g s).timing = s.timing := rfl
@[simp] theorem updateEntry_sched (id : Nat) (g : Entry → Entry) (s : State) :
    (updateEntry id g s).sched = s.sched := rfl
@[simp] theorem updateEntry_channels (id : Nat) (g : Entry → Entry) (s : State) :
    (updateEntry id g s).channels = s.channels := rfl
@[simp] theorem updateEntry_stations (id : Nat) (g : Entry → Entry) (s : State) :
    (updateEntry id g s).stations = s.stations := rfl
@[simp] theorem updateEntry_triggers (id : Nat) (g : Entry → Entry) (s : State) :
    (updateEntry id g s).triggers = s.triggers := rfl
@[simp] theorem updateEntry_tally (id : Nat) (g : Entry → Entry) (s : State) :
    (updateEntry id g s).tally = s.tally := rfl
@[simp] theorem updateEntry_asRun (id : Nat) (g : Entry → Entry) (s : State) :
    (updateEntry id g s).asRun = s.asRun := rfl
@[simp] theorem updateEntry_links (id : Nat) (g : Entry → Entry) (s : State) :
    (updateEntry id g s).links = s.links := rfl
@[simp] theorem updateEntry_edge (id : Nat) (g : Entry → Entry) (s : State) :
    (updateEntry id g s).edge = s.edge := rfl
@[simp] theorem updateEntry_owed (id : Nat) (g : Entry → Entry) (s : State) :
    (updateEntry id g s).owed = s.owed := rfl
@[simp] theorem updateEntry_pending (id : Nat) (g : Entry → Entry) (s : State) :
    (updateEntry id g s).pending = s.pending := rfl

/-! ### markDirty -/

@[simp] theorem markDirty_rst (s : State) : (markDirty s).rst = s.rst := rfl
@[simp] theorem markDirty_clock (s : State) : (markDirty s).clock = s.clock := rfl
@[simp] theorem markDirty_store (s : State) :
    (markDirty s).store = { s.store with dirty := true } := rfl
@[simp] theorem markDirty_tkc (s : State) : (markDirty s).tkc = s.tkc := rfl
@[simp] theorem markDirty_timing (s : State) : (markDirty s).timing = s.timing := rfl
@[simp] theorem markDirty_sched (s : State) : (markDirty s).sched = s.sched := rfl
@[simp] theorem markDirty_channels (s : State) : (markDirty s).channels = s.channels := rfl
@[simp] theorem markDirty_stations (s : State) : (markDirty s).stations = s.stations := rfl
@[simp] theorem markDirty_triggers (s : State) : (markDirty s).triggers = s.triggers := rfl
@[simp] theorem markDirty_tally (s : State) : (markDirty s).tally = s.tally := rfl
@[simp] theorem markDirty_asRun (s : State) : (markDirty s).asRun = s.asRun := rfl
@[simp] theorem markDirty_links (s : State) : (markDirty s).links = s.links := rfl
@[simp] theorem markDirty_edge (s : State) : (markDirty s).edge = s.edge := rfl
@[simp] theorem markDirty_owed (s : State) : (markDirty s).owed = s.owed := rfl
@[simp] theorem markDirty_pending (s : State) : (markDirty s).pending = s.pending := rfl

/-! ### putChannel -/

@[simp] theorem putChannel_rst (c : Fin 16) (ch : Channel) (s : State) : (putChannel c ch s).rst = s.rst := rfl
@[simp] theorem putChannel_clock (c : Fin 16) (ch : Channel) (s : State) : (putChannel c ch s).clock = s.clock := rfl
@[simp] theorem putChannel_store (c : Fin 16) (ch : Channel) (s : State) : (putChannel c ch s).store = s.store := rfl
@[simp] theorem putChannel_tkc (c : Fin 16) (ch : Channel) (s : State) : (putChannel c ch s).tkc = s.tkc := rfl
@[simp] theorem putChannel_timing (c : Fin 16) (ch : Channel) (s : State) :
    (putChannel c ch s).timing = s.timing := rfl
@[simp] theorem putChannel_sched (c : Fin 16) (ch : Channel) (s : State) : (putChannel c ch s).sched = s.sched := rfl
@[simp] theorem putChannel_channels (c : Fin 16) (ch : Channel) (s : State) :
    (putChannel c ch s).channels = s.channels.set c ch := rfl
@[simp] theorem putChannel_stations (c : Fin 16) (ch : Channel) (s : State) :
    (putChannel c ch s).stations = s.stations := rfl
@[simp] theorem putChannel_triggers (c : Fin 16) (ch : Channel) (s : State) :
    (putChannel c ch s).triggers = s.triggers := rfl
@[simp] theorem putChannel_tally (c : Fin 16) (ch : Channel) (s : State) : (putChannel c ch s).tally = s.tally := rfl
@[simp] theorem putChannel_asRun (c : Fin 16) (ch : Channel) (s : State) : (putChannel c ch s).asRun = s.asRun := rfl
@[simp] theorem putChannel_links (c : Fin 16) (ch : Channel) (s : State) : (putChannel c ch s).links = s.links := rfl
@[simp] theorem putChannel_edge (c : Fin 16) (ch : Channel) (s : State) : (putChannel c ch s).edge = s.edge := rfl
@[simp] theorem putChannel_owed (c : Fin 16) (ch : Channel) (s : State) : (putChannel c ch s).owed = s.owed := rfl
@[simp] theorem putChannel_pending (c : Fin 16) (ch : Channel) (s : State) :
    (putChannel c ch s).pending = s.pending := rfl

/-! ### putStation -/

@[simp] theorem putStation_rst (st : StationId) (x : Station) (s : State) : (putStation st x s).rst = s.rst := rfl
@[simp] theorem putStation_clock (st : StationId) (x : Station) (s : State) :
    (putStation st x s).clock = s.clock := rfl
@[simp] theorem putStation_store (st : StationId) (x : Station) (s : State) :
    (putStation st x s).store = s.store := rfl
@[simp] theorem putStation_tkc (st : StationId) (x : Station) (s : State) : (putStation st x s).tkc = s.tkc := rfl
@[simp] theorem putStation_timing (st : StationId) (x : Station) (s : State) :
    (putStation st x s).timing = s.timing := rfl
@[simp] theorem putStation_sched (st : StationId) (x : Station) (s : State) :
    (putStation st x s).sched = s.sched := rfl
@[simp] theorem putStation_channels (st : StationId) (x : Station) (s : State) :
    (putStation st x s).channels = s.channels := rfl
@[simp] theorem putStation_stations (st : StationId) (x : Station) (s : State) :
    (putStation st x s).stations = s.stations.set (stationIndex st) x := rfl
@[simp] theorem putStation_triggers (st : StationId) (x : Station) (s : State) :
    (putStation st x s).triggers = s.triggers := rfl
@[simp] theorem putStation_tally (st : StationId) (x : Station) (s : State) :
    (putStation st x s).tally = s.tally := rfl
@[simp] theorem putStation_asRun (st : StationId) (x : Station) (s : State) :
    (putStation st x s).asRun = s.asRun := rfl
@[simp] theorem putStation_links (st : StationId) (x : Station) (s : State) :
    (putStation st x s).links = s.links := rfl
@[simp] theorem putStation_edge (st : StationId) (x : Station) (s : State) : (putStation st x s).edge = s.edge := rfl
@[simp] theorem putStation_owed (st : StationId) (x : Station) (s : State) : (putStation st x s).owed = s.owed := rfl
@[simp] theorem putStation_pending (st : StationId) (x : Station) (s : State) :
    (putStation st x s).pending = s.pending := rfl

/-! ### putUnit -/

@[simp] theorem putUnit_rst (u : Fin 8) (x : TriggerUnit) (s : State) : (putUnit u x s).rst = s.rst := rfl
@[simp] theorem putUnit_clock (u : Fin 8) (x : TriggerUnit) (s : State) : (putUnit u x s).clock = s.clock := rfl
@[simp] theorem putUnit_store (u : Fin 8) (x : TriggerUnit) (s : State) : (putUnit u x s).store = s.store := rfl
@[simp] theorem putUnit_tkc (u : Fin 8) (x : TriggerUnit) (s : State) : (putUnit u x s).tkc = s.tkc := rfl
@[simp] theorem putUnit_timing (u : Fin 8) (x : TriggerUnit) (s : State) : (putUnit u x s).timing = s.timing := rfl
@[simp] theorem putUnit_sched (u : Fin 8) (x : TriggerUnit) (s : State) : (putUnit u x s).sched = s.sched := rfl
@[simp] theorem putUnit_channels (u : Fin 8) (x : TriggerUnit) (s : State) :
    (putUnit u x s).channels = s.channels := rfl
@[simp] theorem putUnit_stations (u : Fin 8) (x : TriggerUnit) (s : State) :
    (putUnit u x s).stations = s.stations := rfl
@[simp] theorem putUnit_triggers (u : Fin 8) (x : TriggerUnit) (s : State) :
    (putUnit u x s).triggers = { s.triggers with units := s.triggers.units.set u x } := rfl
@[simp] theorem putUnit_tally (u : Fin 8) (x : TriggerUnit) (s : State) : (putUnit u x s).tally = s.tally := rfl
@[simp] theorem putUnit_asRun (u : Fin 8) (x : TriggerUnit) (s : State) : (putUnit u x s).asRun = s.asRun := rfl
@[simp] theorem putUnit_links (u : Fin 8) (x : TriggerUnit) (s : State) : (putUnit u x s).links = s.links := rfl
@[simp] theorem putUnit_edge (u : Fin 8) (x : TriggerUnit) (s : State) : (putUnit u x s).edge = s.edge := rfl
@[simp] theorem putUnit_owed (u : Fin 8) (x : TriggerUnit) (s : State) : (putUnit u x s).owed = s.owed := rfl
@[simp] theorem putUnit_pending (u : Fin 8) (x : TriggerUnit) (s : State) : (putUnit u x s).pending = s.pending := rfl

/-! ### putSlot -/

@[simp] theorem putSlot_rst (i : Fin 32) (x : Option Slot) (s : State) : (putSlot i x s).rst = s.rst := rfl
@[simp] theorem putSlot_clock (i : Fin 32) (x : Option Slot) (s : State) : (putSlot i x s).clock = s.clock := rfl
@[simp] theorem putSlot_store (i : Fin 32) (x : Option Slot) (s : State) : (putSlot i x s).store = s.store := rfl
@[simp] theorem putSlot_tkc (i : Fin 32) (x : Option Slot) (s : State) : (putSlot i x s).tkc = s.tkc := rfl
@[simp] theorem putSlot_timing (i : Fin 32) (x : Option Slot) (s : State) : (putSlot i x s).timing = s.timing := rfl
@[simp] theorem putSlot_sched (i : Fin 32) (x : Option Slot) (s : State) :
    (putSlot i x s).sched = { s.sched with slots := s.sched.slots.set i x } := rfl
@[simp] theorem putSlot_channels (i : Fin 32) (x : Option Slot) (s : State) :
    (putSlot i x s).channels = s.channels := rfl
@[simp] theorem putSlot_stations (i : Fin 32) (x : Option Slot) (s : State) :
    (putSlot i x s).stations = s.stations := rfl
@[simp] theorem putSlot_triggers (i : Fin 32) (x : Option Slot) (s : State) :
    (putSlot i x s).triggers = s.triggers := rfl
@[simp] theorem putSlot_tally (i : Fin 32) (x : Option Slot) (s : State) : (putSlot i x s).tally = s.tally := rfl
@[simp] theorem putSlot_asRun (i : Fin 32) (x : Option Slot) (s : State) : (putSlot i x s).asRun = s.asRun := rfl
@[simp] theorem putSlot_links (i : Fin 32) (x : Option Slot) (s : State) : (putSlot i x s).links = s.links := rfl
@[simp] theorem putSlot_edge (i : Fin 32) (x : Option Slot) (s : State) : (putSlot i x s).edge = s.edge := rfl
@[simp] theorem putSlot_owed (i : Fin 32) (x : Option Slot) (s : State) : (putSlot i x s).owed = s.owed := rfl
@[simp] theorem putSlot_pending (i : Fin 32) (x : Option Slot) (s : State) :
    (putSlot i x s).pending = s.pending := rfl

/-! ### putLink -/

@[simp] theorem putLink_rst (n : Fin 4) (l : Link) (s : State) : (putLink n l s).rst = s.rst := rfl
@[simp] theorem putLink_clock (n : Fin 4) (l : Link) (s : State) : (putLink n l s).clock = s.clock := rfl
@[simp] theorem putLink_store (n : Fin 4) (l : Link) (s : State) : (putLink n l s).store = s.store := rfl
@[simp] theorem putLink_tkc (n : Fin 4) (l : Link) (s : State) : (putLink n l s).tkc = s.tkc := rfl
@[simp] theorem putLink_timing (n : Fin 4) (l : Link) (s : State) : (putLink n l s).timing = s.timing := rfl
@[simp] theorem putLink_sched (n : Fin 4) (l : Link) (s : State) : (putLink n l s).sched = s.sched := rfl
@[simp] theorem putLink_channels (n : Fin 4) (l : Link) (s : State) : (putLink n l s).channels = s.channels := rfl
@[simp] theorem putLink_stations (n : Fin 4) (l : Link) (s : State) : (putLink n l s).stations = s.stations := rfl
@[simp] theorem putLink_triggers (n : Fin 4) (l : Link) (s : State) : (putLink n l s).triggers = s.triggers := rfl
@[simp] theorem putLink_tally (n : Fin 4) (l : Link) (s : State) : (putLink n l s).tally = s.tally := rfl
@[simp] theorem putLink_asRun (n : Fin 4) (l : Link) (s : State) : (putLink n l s).asRun = s.asRun := rfl
@[simp] theorem putLink_links (n : Fin 4) (l : Link) (s : State) :
    (putLink n l s).links = s.links.set n l := rfl
@[simp] theorem putLink_edge (n : Fin 4) (l : Link) (s : State) : (putLink n l s).edge = s.edge := rfl
@[simp] theorem putLink_owed (n : Fin 4) (l : Link) (s : State) : (putLink n l s).owed = s.owed := rfl
@[simp] theorem putLink_pending (n : Fin 4) (l : Link) (s : State) : (putLink n l s).pending = s.pending := rfl

/-! ### setOverride -/

@[simp] theorem setOverride_rst (st : StationId) (o : Option Override) (s : State) :
    (setOverride st o s).rst = s.rst := rfl
@[simp] theorem setOverride_clock (st : StationId) (o : Option Override) (s : State) :
    (setOverride st o s).clock = s.clock := rfl
@[simp] theorem setOverride_store (st : StationId) (o : Option Override) (s : State) :
    (setOverride st o s).store = s.store := rfl
@[simp] theorem setOverride_tkc (st : StationId) (o : Option Override) (s : State) :
    (setOverride st o s).tkc = s.tkc := rfl
@[simp] theorem setOverride_timing (st : StationId) (o : Option Override) (s : State) :
    (setOverride st o s).timing = s.timing := rfl
@[simp] theorem setOverride_sched (st : StationId) (o : Option Override) (s : State) :
    (setOverride st o s).sched = s.sched := rfl
@[simp] theorem setOverride_channels (st : StationId) (o : Option Override) (s : State) :
    (setOverride st o s).channels = s.channels := rfl
@[simp] theorem setOverride_stations (st : StationId) (o : Option Override) (s : State) :
    (setOverride st o s).stations = s.stations.set (stationIndex st) { s.station st with override := o } := rfl
@[simp] theorem setOverride_triggers (st : StationId) (o : Option Override) (s : State) :
    (setOverride st o s).triggers = s.triggers := rfl
@[simp] theorem setOverride_tally (st : StationId) (o : Option Override) (s : State) :
    (setOverride st o s).tally = s.tally := rfl
@[simp] theorem setOverride_asRun (st : StationId) (o : Option Override) (s : State) :
    (setOverride st o s).asRun = s.asRun := rfl
@[simp] theorem setOverride_links (st : StationId) (o : Option Override) (s : State) :
    (setOverride st o s).links = s.links := rfl
@[simp] theorem setOverride_edge (st : StationId) (o : Option Override) (s : State) :
    (setOverride st o s).edge = s.edge := rfl
@[simp] theorem setOverride_owed (st : StationId) (o : Option Override) (s : State) :
    (setOverride st o s).owed = s.owed := rfl
@[simp] theorem setOverride_pending (st : StationId) (o : Option Override) (s : State) :
    (setOverride st o s).pending = s.pending := rfl

/-! ### putArmed -/

@[simp] theorem putArmed_rst (a : Option Armed) (s : State) : (putArmed a s).rst = s.rst := rfl
@[simp] theorem putArmed_clock (a : Option Armed) (s : State) : (putArmed a s).clock = s.clock := rfl
@[simp] theorem putArmed_store (a : Option Armed) (s : State) : (putArmed a s).store = s.store := rfl
@[simp] theorem putArmed_tkc (a : Option Armed) (s : State) :
    (putArmed a s).tkc = { s.tkc with armed := a } := rfl
@[simp] theorem putArmed_timing (a : Option Armed) (s : State) : (putArmed a s).timing = s.timing := rfl
@[simp] theorem putArmed_sched (a : Option Armed) (s : State) : (putArmed a s).sched = s.sched := rfl
@[simp] theorem putArmed_channels (a : Option Armed) (s : State) : (putArmed a s).channels = s.channels := rfl
@[simp] theorem putArmed_stations (a : Option Armed) (s : State) : (putArmed a s).stations = s.stations := rfl
@[simp] theorem putArmed_triggers (a : Option Armed) (s : State) : (putArmed a s).triggers = s.triggers := rfl
@[simp] theorem putArmed_tally (a : Option Armed) (s : State) : (putArmed a s).tally = s.tally := rfl
@[simp] theorem putArmed_asRun (a : Option Armed) (s : State) : (putArmed a s).asRun = s.asRun := rfl
@[simp] theorem putArmed_links (a : Option Armed) (s : State) : (putArmed a s).links = s.links := rfl
@[simp] theorem putArmed_edge (a : Option Armed) (s : State) : (putArmed a s).edge = s.edge := rfl
@[simp] theorem putArmed_owed (a : Option Armed) (s : State) : (putArmed a s).owed = s.owed := rfl
@[simp] theorem putArmed_pending (a : Option Armed) (s : State) : (putArmed a s).pending = s.pending := rfl

/-! ### setHolding -/

@[simp] theorem setHolding_rst (b : Bool) (s : State) : (setHolding b s).rst = s.rst := rfl
@[simp] theorem setHolding_clock (b : Bool) (s : State) : (setHolding b s).clock = s.clock := rfl
@[simp] theorem setHolding_store (b : Bool) (s : State) : (setHolding b s).store = s.store := rfl
@[simp] theorem setHolding_tkc (b : Bool) (s : State) : (setHolding b s).tkc = s.tkc := rfl
@[simp] theorem setHolding_timing (b : Bool) (s : State) : (setHolding b s).timing = s.timing := rfl
@[simp] theorem setHolding_sched (b : Bool) (s : State) : (setHolding b s).sched = s.sched := rfl
@[simp] theorem setHolding_channels (b : Bool) (s : State) : (setHolding b s).channels = s.channels := rfl
@[simp] theorem setHolding_stations (b : Bool) (s : State) : (setHolding b s).stations = s.stations := rfl
@[simp] theorem setHolding_triggers (b : Bool) (s : State) :
    (setHolding b s).triggers = { s.triggers with holding := b } := rfl
@[simp] theorem setHolding_tally (b : Bool) (s : State) : (setHolding b s).tally = s.tally := rfl
@[simp] theorem setHolding_asRun (b : Bool) (s : State) : (setHolding b s).asRun = s.asRun := rfl
@[simp] theorem setHolding_links (b : Bool) (s : State) : (setHolding b s).links = s.links := rfl
@[simp] theorem setHolding_edge (b : Bool) (s : State) : (setHolding b s).edge = s.edge := rfl
@[simp] theorem setHolding_owed (b : Bool) (s : State) : (setHolding b s).owed = s.owed := rfl
@[simp] theorem setHolding_pending (b : Bool) (s : State) : (setHolding b s).pending = s.pending := rfl

/-! ### noteCreated -/

@[simp] theorem noteCreated_rst (id : Nat) (s : State) : (noteCreated id s).rst = s.rst := rfl
@[simp] theorem noteCreated_clock (id : Nat) (s : State) : (noteCreated id s).clock = s.clock := rfl
@[simp] theorem noteCreated_store (id : Nat) (s : State) : (noteCreated id s).store = s.store := rfl
@[simp] theorem noteCreated_tkc (id : Nat) (s : State) : (noteCreated id s).tkc = s.tkc := rfl
@[simp] theorem noteCreated_timing (id : Nat) (s : State) :
    (noteCreated id s).timing = { s.timing with created := id :: s.timing.created, view := s.timing.view.map fun v => { v with created := id :: v.created } } := rfl
@[simp] theorem noteCreated_sched (id : Nat) (s : State) : (noteCreated id s).sched = s.sched := rfl
@[simp] theorem noteCreated_channels (id : Nat) (s : State) : (noteCreated id s).channels = s.channels := rfl
@[simp] theorem noteCreated_stations (id : Nat) (s : State) : (noteCreated id s).stations = s.stations := rfl
@[simp] theorem noteCreated_triggers (id : Nat) (s : State) : (noteCreated id s).triggers = s.triggers := rfl
@[simp] theorem noteCreated_tally (id : Nat) (s : State) : (noteCreated id s).tally = s.tally := rfl
@[simp] theorem noteCreated_asRun (id : Nat) (s : State) : (noteCreated id s).asRun = s.asRun := rfl
@[simp] theorem noteCreated_links (id : Nat) (s : State) : (noteCreated id s).links = s.links := rfl
@[simp] theorem noteCreated_edge (id : Nat) (s : State) : (noteCreated id s).edge = s.edge := rfl
@[simp] theorem noteCreated_owed (id : Nat) (s : State) : (noteCreated id s).owed = s.owed := rfl
@[simp] theorem noteCreated_pending (id : Nat) (s : State) : (noteCreated id s).pending = s.pending := rfl

/-! ### beginPass -/

@[simp] theorem Baseline.forget_mode (ids : List Nat) (b : Baseline) : (b.forget ids).mode = b.mode := rfl
@[simp] theorem forgetIds_length {α : Type} (ids : List Nat) (ps : List (Nat × α)) :
    (forgetIds ids ps).length = ps.length := by simp [forgetIds]
@[simp] theorem forgetIds_nil {α : Type} (ps : List (Nat × α)) : forgetIds [] ps = ps := by simp [forgetIds]
@[simp] theorem beginPass_rst (s : State) : (beginPass s).rst = s.rst := rfl
@[simp] theorem beginPass_clock (s : State) : (beginPass s).clock = s.clock := rfl
@[simp] theorem beginPass_store (s : State) : (beginPass s).store = { s.store with dirty := false } := rfl
@[simp] theorem beginPass_tkc (s : State) : (beginPass s).tkc = s.tkc := rfl
@[simp] theorem beginPass_timing (s : State) : (beginPass s).timing = { s.timing with
    view := some { order := s.store.order, pgm := s.tkc.pgm, source := s.clock.frame, tod := s.clock.tod, mode := s.clock.mode,
                   tookDirty := s.store.dirty, created := [] },
    baseline := s.timing.baseline.forget s.timing.created } := rfl
@[simp] theorem beginPass_sched (s : State) : (beginPass s).sched = s.sched := rfl
@[simp] theorem beginPass_channels (s : State) : (beginPass s).channels = s.channels := rfl
@[simp] theorem beginPass_stations (s : State) : (beginPass s).stations = s.stations := rfl
@[simp] theorem beginPass_triggers (s : State) : (beginPass s).triggers = s.triggers := rfl
@[simp] theorem beginPass_tally (s : State) : (beginPass s).tally = s.tally := rfl
@[simp] theorem beginPass_asRun (s : State) : (beginPass s).asRun = s.asRun := rfl
@[simp] theorem beginPass_links (s : State) : (beginPass s).links = s.links := rfl
@[simp] theorem beginPass_edge (s : State) : (beginPass s).edge = s.edge := rfl
@[simp] theorem beginPass_owed (s : State) : (beginPass s).owed = s.owed := rfl
@[simp] theorem beginPass_pending (s : State) : (beginPass s).pending = s.pending := rfl

/-! ### requestTkc -/

@[simp] theorem requestTkc_rst (acted : Bool) (u : Fin 8) (a : TkcAction) (s : State) :
    (requestTkc acted u a s).rst = s.rst := rfl
@[simp] theorem requestTkc_clock (acted : Bool) (u : Fin 8) (a : TkcAction) (s : State) :
    (requestTkc acted u a s).clock = s.clock := rfl
@[simp] theorem requestTkc_store (acted : Bool) (u : Fin 8) (a : TkcAction) (s : State) :
    (requestTkc acted u a s).store = s.store := rfl
@[simp] theorem requestTkc_tkc (acted : Bool) (u : Fin 8) (a : TkcAction) (s : State) :
    (requestTkc acted u a s).tkc = { s.tkc with requests := s.tkc.requests ++ [{ unit := u, action := a, acted := acted }] } := rfl
@[simp] theorem requestTkc_timing (acted : Bool) (u : Fin 8) (a : TkcAction) (s : State) :
    (requestTkc acted u a s).timing = s.timing := rfl
@[simp] theorem requestTkc_sched (acted : Bool) (u : Fin 8) (a : TkcAction) (s : State) :
    (requestTkc acted u a s).sched = s.sched := rfl
@[simp] theorem requestTkc_channels (acted : Bool) (u : Fin 8) (a : TkcAction) (s : State) :
    (requestTkc acted u a s).channels = s.channels := rfl
@[simp] theorem requestTkc_stations (acted : Bool) (u : Fin 8) (a : TkcAction) (s : State) :
    (requestTkc acted u a s).stations = s.stations := rfl
@[simp] theorem requestTkc_triggers (acted : Bool) (u : Fin 8) (a : TkcAction) (s : State) :
    (requestTkc acted u a s).triggers = s.triggers := rfl
@[simp] theorem requestTkc_tally (acted : Bool) (u : Fin 8) (a : TkcAction) (s : State) :
    (requestTkc acted u a s).tally = s.tally := rfl
@[simp] theorem requestTkc_asRun (acted : Bool) (u : Fin 8) (a : TkcAction) (s : State) :
    (requestTkc acted u a s).asRun = s.asRun := rfl
@[simp] theorem requestTkc_links (acted : Bool) (u : Fin 8) (a : TkcAction) (s : State) :
    (requestTkc acted u a s).links = s.links := rfl
@[simp] theorem requestTkc_edge (acted : Bool) (u : Fin 8) (a : TkcAction) (s : State) :
    (requestTkc acted u a s).edge = s.edge := rfl
@[simp] theorem requestTkc_owed (acted : Bool) (u : Fin 8) (a : TkcAction) (s : State) :
    (requestTkc acted u a s).owed = s.owed := rfl
@[simp] theorem requestTkc_pending (acted : Bool) (u : Fin 8) (a : TkcAction) (s : State) :
    (requestTkc acted u a s).pending = s.pending := rfl

/-! ### setHoldArm -/

@[simp] theorem setHoldArm_rst (b : Bool) (s : State) : (setHoldArm b s).rst = s.rst := rfl
@[simp] theorem setHoldArm_clock (b : Bool) (s : State) : (setHoldArm b s).clock = s.clock := rfl
@[simp] theorem setHoldArm_store (b : Bool) (s : State) : (setHoldArm b s).store = s.store := rfl
@[simp] theorem setHoldArm_tkc (b : Bool) (s : State) :
    (setHoldArm b s).tkc = { s.tkc with holdArm := b } := rfl
@[simp] theorem setHoldArm_timing (b : Bool) (s : State) : (setHoldArm b s).timing = s.timing := rfl
@[simp] theorem setHoldArm_sched (b : Bool) (s : State) : (setHoldArm b s).sched = s.sched := rfl
@[simp] theorem setHoldArm_channels (b : Bool) (s : State) : (setHoldArm b s).channels = s.channels := rfl
@[simp] theorem setHoldArm_stations (b : Bool) (s : State) : (setHoldArm b s).stations = s.stations := rfl
@[simp] theorem setHoldArm_triggers (b : Bool) (s : State) : (setHoldArm b s).triggers = s.triggers := rfl
@[simp] theorem setHoldArm_tally (b : Bool) (s : State) : (setHoldArm b s).tally = s.tally := rfl
@[simp] theorem setHoldArm_asRun (b : Bool) (s : State) : (setHoldArm b s).asRun = s.asRun := rfl
@[simp] theorem setHoldArm_links (b : Bool) (s : State) : (setHoldArm b s).links = s.links := rfl
@[simp] theorem setHoldArm_edge (b : Bool) (s : State) : (setHoldArm b s).edge = s.edge := rfl
@[simp] theorem setHoldArm_owed (b : Bool) (s : State) : (setHoldArm b s).owed = s.owed := rfl
@[simp] theorem setHoldArm_pending (b : Bool) (s : State) : (setHoldArm b s).pending = s.pending := rfl

/-! ### setLastLength -/

@[simp] theorem setLastLength_rst (t : Nat) (s : State) : (setLastLength t s).rst = s.rst := rfl
@[simp] theorem setLastLength_clock (t : Nat) (s : State) : (setLastLength t s).clock = s.clock := rfl
@[simp] theorem setLastLength_store (t : Nat) (s : State) : (setLastLength t s).store = s.store := rfl
@[simp] theorem setLastLength_tkc (t : Nat) (s : State) :
    (setLastLength t s).tkc = { s.tkc with lastLength := t } := rfl
@[simp] theorem setLastLength_timing (t : Nat) (s : State) : (setLastLength t s).timing = s.timing := rfl
@[simp] theorem setLastLength_sched (t : Nat) (s : State) : (setLastLength t s).sched = s.sched := rfl
@[simp] theorem setLastLength_channels (t : Nat) (s : State) : (setLastLength t s).channels = s.channels := rfl
@[simp] theorem setLastLength_stations (t : Nat) (s : State) : (setLastLength t s).stations = s.stations := rfl
@[simp] theorem setLastLength_triggers (t : Nat) (s : State) : (setLastLength t s).triggers = s.triggers := rfl
@[simp] theorem setLastLength_tally (t : Nat) (s : State) : (setLastLength t s).tally = s.tally := rfl
@[simp] theorem setLastLength_asRun (t : Nat) (s : State) : (setLastLength t s).asRun = s.asRun := rfl
@[simp] theorem setLastLength_links (t : Nat) (s : State) : (setLastLength t s).links = s.links := rfl
@[simp] theorem setLastLength_edge (t : Nat) (s : State) : (setLastLength t s).edge = s.edge := rfl
@[simp] theorem setLastLength_owed (t : Nat) (s : State) : (setLastLength t s).owed = s.owed := rfl
@[simp] theorem setLastLength_pending (t : Nat) (s : State) : (setLastLength t s).pending = s.pending := rfl

/-! ### pendRun -/

@[simp] theorem pendRun_rst (r : RunState) (s : State) : (pendRun r s).rst = s.rst := rfl
@[simp] theorem pendRun_clock (r : RunState) (s : State) :
    (pendRun r s).clock = { s.clock with runPending := some r } := rfl
@[simp] theorem pendRun_store (r : RunState) (s : State) : (pendRun r s).store = s.store := rfl
@[simp] theorem pendRun_tkc (r : RunState) (s : State) : (pendRun r s).tkc = s.tkc := rfl
@[simp] theorem pendRun_timing (r : RunState) (s : State) : (pendRun r s).timing = s.timing := rfl
@[simp] theorem pendRun_sched (r : RunState) (s : State) : (pendRun r s).sched = s.sched := rfl
@[simp] theorem pendRun_channels (r : RunState) (s : State) : (pendRun r s).channels = s.channels := rfl
@[simp] theorem pendRun_stations (r : RunState) (s : State) : (pendRun r s).stations = s.stations := rfl
@[simp] theorem pendRun_triggers (r : RunState) (s : State) : (pendRun r s).triggers = s.triggers := rfl
@[simp] theorem pendRun_tally (r : RunState) (s : State) : (pendRun r s).tally = s.tally := rfl
@[simp] theorem pendRun_asRun (r : RunState) (s : State) : (pendRun r s).asRun = s.asRun := rfl
@[simp] theorem pendRun_links (r : RunState) (s : State) : (pendRun r s).links = s.links := rfl
@[simp] theorem pendRun_edge (r : RunState) (s : State) : (pendRun r s).edge = s.edge := rfl
@[simp] theorem pendRun_owed (r : RunState) (s : State) : (pendRun r s).owed = s.owed := rfl
@[simp] theorem pendRun_pending (r : RunState) (s : State) : (pendRun r s).pending = s.pending := rfl

/-! ### The outgoing slot at a frame edge (R48, R60) -/

@[simp] theorem Outgoing.newFrame_id (o : Outgoing) : o.newFrame.id = o.id := by unfold Outgoing.newFrame; split <;> rfl
@[simp] theorem Outgoing.newFrame_target (o : Outgoing) : o.newFrame.target = o.target := by
  unfold Outgoing.newFrame; split <;> rfl

/-- What a frame edge can do to the outgoing slot, said once: the count goes down by one, or it is the last frame's and the
completion is due. -/
theorem Outgoing.newFrame_cases (o : Outgoing) :
    (2 ≤ o.count ∧ o.newFrame = { o with count := o.count - 1 }) ∨ (o.count ≤ 1 ∧ o.newFrame = { o with due := true }) := by
  unfold Outgoing.newFrame
  split
  · exact .inr ⟨‹_›, rfl⟩
  · exact .inl ⟨by omega, rfl⟩

@[simp] theorem openEdge_tkc (rdy : BitVec 16) (s : State) :
    (openEdge rdy s).tkc = { s.tkc with out := s.tkc.out.map Outgoing.newFrame } := rfl

/-- Where no completion is left from the edge before, a frame edge keeps the transition count in its range. -/
theorem transitionSound_openEdge (rdy : BitVec 16) (s : State) (hd : s.transitionDue = false) (h : transitionSound s) :
    transitionSound (openEdge rdy s) := by
  refine ⟨h.1, fun o ho => ?_⟩
  obtain ⟨x, hx, rfl⟩ := Option.map_eq_some_iff.mp (Option.mem_def.mp ho)
  obtain ⟨h1, h2, -⟩ := h.2 x hx
  have hx' : x.due = false := by simpa [State.transitionDue, hx] using hd
  obtain ⟨hc, he⟩ | ⟨hc, he⟩ := x.newFrame_cases <;> rw [he]
  · exact ⟨by dsimp only; omega, by dsimp only; omega, by simp [hx']⟩
  · exact ⟨h1, h2, fun _ => by dsimp only; omega⟩

/-- A transition length lies in 0..250 (R57). -/
theorem Command.transitionLength_le (k : Command) (last : Nat) (h : last ≤ Config.maxTransition) :
    k.transitionLength last ≤ Config.maxTransition := by
  unfold Command.transitionLength keepOr16 clampTo
  split
  · exact h
  · exact Nat.min_le_right _ _

end Sys2Proof.Machine
end

