-- ==== Sys2Proof/Laws/Basic.lean ====
section
/-! SUPPORT. Facts about the fixed tables and the shared list operations that the other lemma files rest on. -/

namespace Sys2Proof.Machine

/-! ### Tables -/

@[simp] theorem mapTable_get {α : Type} {n : Nat} (f : Fin n → α → α) (v : Vector α n) (j : Nat) (hj : j < n) :
    (mapTable f v)[j] = f ⟨j, hj⟩ v[j] := by simp [mapTable]

theorem vector_set_get {α : Type} {n : Nat} (v : Vector α n) (i : Fin n) : v.set i v[i] = v := by
  ext j hj
  by_cases h : i.val = j
  · subst h; simp
  · simp

/-- A table read after a write: the value written at its own place, the former value elsewhere. -/
theorem vector_get_set {α : Type} {n : Nat} (v : Vector α n) (i j : Fin n) (x : α) :
    (v.set i x)[j] = if i = j then x else v[j] := by
  by_cases h : i = j
  · subst h; simp
  · simp [h, Fin.val_ne_of_ne h]

@[simp] theorem channel_putChannel (c d : Fin 16) (ch : Channel) (s : State) :
    (putChannel c ch s).channel d = if c = d then ch else s.channel d := vector_get_set s.channels c d ch

theorem stationIndex_eq (st x : StationId) : stationIndex st = stationIndex x ↔ st = x := by
  cases st <;> cases x <;> decide

@[simp] theorem station_putStation (st x : StationId) (y : Station) (s : State) :
    (putStation st y s).station x = if st = x then y else s.station x := by
  have h := vector_get_set s.stations (stationIndex st) (stationIndex x) y
  simp only [stationIndex_eq] at h
  exact h

@[simp] theorem link_putLink (n m : Fin 4) (l : Link) (s : State) :
    (putLink n l s).link m = if n = m then l else s.link m := vector_get_set s.links n m l

@[simp] theorem putLink_link_self (n : Fin 4) (s : State) : putLink n (s.link n) s = s := by
  simp [putLink, State.link]

@[simp] theorem putLink_putLink (n : Fin 4) (l k : Link) (s : State) : putLink n k (putLink n l s) = putLink n k s := by
  simp [putLink]

/-! ### Reads that other blocks' updates leave -/

@[simp] theorem post_channel (k : Notice) (s : State) (c : Fin 16) : (post k s).channel c = s.channel c := by
  simp [State.channel]

@[simp] theorem post_station (k : Notice) (s : State) (st : StationId) : (post k s).station st = s.station st := by
  simp [State.station]

section

variable (kind : AsRunKind) (e : Option Nat) (st : Option Word) (c : Option (Fin 16)) (i : Option Nat) (u : Option (Fin 8)) (v : Nat) (s : State)

@[simp] theorem appendRecord_channel (d : Fin 16) : (appendRecord kind e st c i u v s).channel d = s.channel d := rfl
@[simp] theorem appendRecord_station (x : StationId) : (appendRecord kind e st c i u v s).station x = s.station x := rfl
@[simp] theorem appendRecord_link (n : Fin 4) : (appendRecord kind e st c i u v s).link n = s.link n := rfl
@[simp] theorem append_channel (d : Fin 16) : (append kind e st c v s).channel d = s.channel d := rfl
@[simp] theorem append_station (x : StationId) : (append kind e st c v s).station x = s.station x := rfl
@[simp] theorem append_link (n : Fin 4) : (append kind e st c v s).link n = s.link n := rfl

end

/-- What post does at each link: the link admits the notice by its own levels (R198); while RST is asserted it is not kept
(R202). -/
@[simp] theorem post_link (k : Notice) (s : State) (n : Fin 4) :
    (post k s).link n = if s.rst then s.link n else (s.link n).queueNotice k := by
  unfold State.link
  rw [post_links]
  split <;> simp

/-! ### A loop keeps what each of its steps keeps -/

theorem forEach_keeps {α : Type} {P : State → Prop} (xs : List α) (g : α → State → State)
    (h : ∀ x ∈ xs, ∀ s, P s → P (g x s)) (s : State) (hs : P s) : P (forEach xs g s) := by
  induction xs generalizing s with
  | nil => exact hs
  | cons x xs ih =>
    exact ih (fun y hy => h y (List.mem_cons_of_mem _ hy)) _ (h x List.mem_cons_self s hs)

end Sys2Proof.Machine
end

