-- ==== Sys2Proof/Laws/Kept.lean ====
section
/-! SUPPORT. What the blocks' operations can do to the state, said once: a property that the primitive updates keep is kept
by every operation the blocks share. A frame ("the clock is left as it was") and an invariant ("the ring is sound") are
both such properties. -/

namespace Sys2Proof.Machine

/-- Every SCRIPT_START of the running order is a scroll position (section 2.1). -/
def scriptsInRange (s : State) : Prop := ∀ e ∈ s.store.order, ∀ p ∈ e.scriptStart, p ≤ Config.maxScroll

/-- A property is kept by the primitive updates of the blocks, given that each leaves a sound channel, station and group
sound, and leaves an entry's id, cue list and SCRIPT_START. -/
structure Kept (P : State → Prop) : Prop where
  post : ∀ s k, P s → P (post k s)
  appendRecord : ∀ s kind e st c i u v, P s → P (appendRecord kind e st c i u v s)
  tkc : ∀ s x, P s → P { s with tkc := x }
  sched : ∀ s x, P s → P { s with sched := x }
  timing : ∀ s x, P s → P { s with timing := x }
  owed : ∀ s x, P s → P { s with owed := x }
  dirty : ∀ s b, P s → P { s with store := { s.store with dirty := b } }
  entry : ∀ s id g, (∀ e : Entry, (g e).id = e.id ∧ (g e).cues = e.cues ∧ (g e).scriptStart = e.scriptStart) →
    P s → P (updateEntry id g s)
  channels : ∀ s v, (∀ c : Fin 16, (s.channel c).sound → (v[c]).sound) → P s → P { s with channels := v }
  stations : ∀ s v, (scriptsInRange s → ∀ st : StationId, (s.station st).sound → (v[stationIndex st]).sound) → P s →
    P { s with stations := v }
  triggers : ∀ s x, (∀ g : Fin 2, (s.triggers.groups[g]).sound → (x.groups[g]).sound) → P s →
    P { s with triggers := x }

/-- Two kept properties are kept together. -/
theorem Kept.and {P Q : State → Prop} (h : Kept P) (k : Kept Q) : Kept fun s => P s ∧ Q s where
  post s n hs := ⟨h.post s n hs.1, k.post s n hs.2⟩
  appendRecord s a b c d e f g hs := ⟨h.appendRecord s a b c d e f g hs.1, k.appendRecord s a b c d e f g hs.2⟩
  tkc s x hs := ⟨h.tkc s x hs.1, k.tkc s x hs.2⟩
  sched s x hs := ⟨h.sched s x hs.1, k.sched s x hs.2⟩
  timing s x hs := ⟨h.timing s x hs.1, k.timing s x hs.2⟩
  owed s x hs := ⟨h.owed s x hs.1, k.owed s x hs.2⟩
  dirty s x hs := ⟨h.dirty s x hs.1, k.dirty s x hs.2⟩
  entry s i g hg hs := ⟨h.entry s i g hg hs.1, k.entry s i g hg hs.2⟩
  channels s v hv hs := ⟨h.channels s v hv hs.1, k.channels s v hv hs.2⟩
  stations s v hv hs := ⟨h.stations s v hv hs.1, k.stations s v hv hs.2⟩
  triggers s x hx hs := ⟨h.triggers s x hx hs.1, k.triggers s x hx hs.2⟩

/-- A property of the fields that the blocks' operations never write is kept. -/
theorem Kept.ofFixed {P : State → Prop}
    (h : ∀ s t : State, t.rst = s.rst → t.clock = s.clock → t.tally = s.tally → t.edge = s.edge → t.pending = s.pending →
      P s → P t) : Kept P where
  post s n := h s _ (by simp) (by simp) (by simp) (by simp) (by simp)
  appendRecord s _ _ _ _ _ _ _ := h s _ rfl rfl rfl rfl rfl
  tkc s _ := h s _ rfl rfl rfl rfl rfl
  sched s _ := h s _ rfl rfl rfl rfl rfl
  timing s _ := h s _ rfl rfl rfl rfl rfl
  owed s _ := h s _ rfl rfl rfl rfl rfl
  dirty s _ := h s _ rfl rfl rfl rfl rfl
  entry s _ _ _ := h s _ rfl rfl rfl rfl rfl
  channels s _ _ := h s _ rfl rfl rfl rfl rfl
  stations s _ _ := h s _ rfl rfl rfl rfl rfl
  triggers s _ _ := h s _ rfl rfl rfl rfl rfl

variable {P : State → Prop}

theorem Kept.append (h : Kept P) (s : State) (kind : AsRunKind) (e : Option Nat) (st : Option Word) (c : Option (Fin 16)) (v : Nat)
    (hs : P s) : P (append kind e st c v s) := h.appendRecord _ _ _ _ _ _ _ _ hs

theorem Kept.appendFor (h : Kept P) (kind : AsRunKind) (c : Fin 16) (r : Request) (v : Nat) (s : State) (hs : P s) :
    P (appendFor kind c r v s) := h.appendRecord _ _ _ _ _ _ _ _ hs

/-! ### Ops -/

theorem Kept.forEach (_ : Kept P) {α : Type} (xs : List α) (g : α → State → State)
    (hg : ∀ x ∈ xs, ∀ s, P s → P (g x s)) (s : State) (hs : P s) : P (forEach xs g s) := forEach_keeps xs g hg s hs

theorem Kept.putChannel (h : Kept P) (c : Fin 16) (ch : Channel) (s : State) (hc : (s.channel c).sound → ch.sound)
    (hs : P s) : P (putChannel c ch s) := by
  refine h.channels s _ (fun d hd => ?_) hs
  rw [vector_get_set]
  split
  · next e => exact hc (e ▸ hd)
  · exact hd

theorem Kept.putStation (h : Kept P) (st : StationId) (x : Station) (s : State)
    (hx : scriptsInRange s → (s.station st).sound → x.sound) (hs : P s) : P (putStation st x s) := by
  refine h.stations s _ (fun hr y hy => ?_) hs
  have hd := vector_get_set s.stations (stationIndex st) (stationIndex y) x
  rw [hd]
  split
  · next e => exact hx hr ((stationIndex_eq st y).mp e ▸ hy)
  · exact hy

theorem Kept.putSlot (h : Kept P) (i : Fin 32) (x : Option Slot) (s : State) (hs : P s) : P (putSlot i x s) :=
  h.sched s _ hs

theorem Kept.putUnit (h : Kept P) (u : Fin 8) (x : TriggerUnit) (s : State) (hs : P s) : P (putUnit u x s) :=
  h.triggers s _ (fun _ hg => hg) hs

theorem Kept.markDirty (h : Kept P) (s : State) (hs : P s) : P (markDirty s) := h.dirty s true hs

theorem Kept.setEntryState (h : Kept P) (id : Nat) (x : EntryState) (s : State) (hs : P s) : P (setEntryState id x s) := by
  unfold Machine.setEntryState
  split
  · exact hs
  · exact h.post _ _ (h.markDirty _ (h.entry _ _ _ (fun _ => ⟨rfl, rfl, rfl⟩) hs))

theorem Kept.freeSlotOf (h : Kept P) (r : Request) (s : State) (hs : P s) : P (freeSlotOf r s) := by
  unfold Machine.freeSlotOf
  split
  · exact h.putSlot _ _ _ hs
  · exact hs

/-! ### Channels -/

theorem Kept.reportDone (h : Kept P) (c : Fin 16) (r : Request) (due : Word) (s : State) (hs : P s) :
    P (reportDone c r due s) := h.post _ _ (h.appendFor _ _ _ _ _ hs)

theorem Kept.enterFire (h : Kept P) (c : Fin 16) (r : Request) (s : State) (hs : P s) : P (enterFire c r s) :=
  h.post _ _ (h.putChannel _ _ _ (fun _ => by simp [Channel.sound, ChannelState.holdsRequest]) hs)

theorem Kept.enterStop (h : Kept P) (c : Fin 16) (r : Request) (s : State) (hs : P s) : P (enterStop c r s) := by
  unfold Machine.enterStop
  apply h.reportDone
  apply h.freeSlotOf
  split
  · next hp => exact h.putChannel _ _ _ (fun hc => by simp_all [Channel.sound, ChannelState.holdsRequest]) hs
  · exact hs

theorem Kept.enterRequest (h : Kept P) (c : Fin 16) (r : Request) (s : State) (hs : P s) : P (enterRequest c r s) := by
  unfold Machine.enterRequest
  split
  · exact h.enterFire _ _ _ hs
  · exact h.enterStop _ _ _ hs

theorem Kept.enterWaiting (h : Kept P) (c : Fin 16) (s : State) (hs : P s) : P (enterWaiting c s) := by
  unfold Machine.enterWaiting
  split
  · exact hs
  · exact h.enterRequest _ _ _ (h.putChannel _ _ _ (fun hc => hc) hs)

theorem Kept.supersede (h : Kept P) (c : Fin 16) (s : State) (hs : P s) : P (supersede c s) := by
  unfold Machine.supersede
  split
  · exact hs
  · exact h.freeSlotOf _ _ (h.appendFor _ _ _ _ _ hs)

theorem Kept.deliver (h : Kept P) (c : Fin 16) (r : Request) (s : State) (hs : P s) : P (deliver c r s) := by
  unfold Machine.deliver
  split
  · exact h.enterRequest _ _ _ hs
  · exact h.putChannel _ _ _ (fun hc => hc) (h.supersede _ _ hs)

theorem Kept.cancelWaiting (h : Kept P) (c : Fin 16) (s : State) (hs : P s) : P (cancelWaiting c s) := by
  unfold Machine.cancelWaiting
  split
  · exact hs
  · exact h.freeSlotOf _ _ (h.appendFor _ _ _ _ _ (h.putChannel _ _ _ (fun hc => hc) hs))

theorem Kept.fire (h : Kept P) (c : Fin 16) (fl : InFlight) (s : State) (hs : P s) : P (fire c fl s) := by
  unfold Machine.fire
  dsimp only
  split
  · exact h.reportDone _ _ _ _ (h.putChannel _ _ _ (fun _ => by simp [Channel.sound, ChannelState.holdsRequest]) hs)
  · exact h.reportDone _ _ _ _ (h.freeSlotOf _ _ (h.putChannel _ _ _ (fun _ => by simp [Channel.sound, ChannelState.holdsRequest]) hs))

theorem Kept.faultRequest (h : Kept P) (c : Fin 16) (fl : InFlight) (s : State) (hs : P s) : P (faultRequest c fl s) :=
  h.post _ _ (h.appendFor _ _ _ _ _ (h.freeSlotOf _ _ (h.putChannel _ _ _ (fun _ => by simp [Channel.sound, ChannelState.holdsRequest]) hs)))

theorem Kept.dropCue (h : Kept P) (c : Fin 16) (s : State) (hs : P s) : P (dropCue c s) := by
  unfold Machine.dropCue
  dsimp only
  split
  · exact h.putChannel _ _ _ (fun hc => hc) hs
  · exact hs

theorem Kept.firstCheckWork (h : Kept P) (c : Fin 16) (fl : InFlight) (s : State) (hs : P s) : P (firstCheckWork c fl s) := by
  unfold Machine.firstCheckWork
  dsimp only
  split
  · exact h.fire _ _ _ hs
  · split
    · exact h.faultRequest _ _ _ hs
    · exact h.putChannel _ _ _ (fun _ => by simp [Channel.sound, ChannelState.holdsRequest]) hs

theorem Channel.sampleDue_state (ch : Channel) (fl : InFlight) (hd : ch.sampleDue = some fl) : ch.state = .hold := by
  unfold Channel.sampleDue at hd
  split at hd <;> simp_all

theorem Kept.holdWork (h : Kept P) (c : Fin 16) (fl : InFlight) (s : State) (hh : (s.channel c).state = .hold) (hs : P s) :
    P (holdWork c fl s) := by
  unfold Machine.holdWork
  dsimp only
  split
  · exact h.fire _ _ _ hs
  · split
    · exact h.faultRequest _ _ _ hs
    · exact h.putChannel _ _ _ (fun _ => by simp [Channel.sound, ChannelState.holdsRequest, hh]) hs

theorem Kept.pulseEndWork (h : Kept P) (c : Fin 16) (fl : InFlight) (s : State) (hs : P s) : P (pulseEndWork c fl s) :=
  h.enterWaiting _ _ (h.freeSlotOf _ _ (h.putChannel _ _ _ (fun _ => by simp [Channel.sound, ChannelState.holdsRequest]) hs))

theorem Kept.leaveFault (h : Kept P) (c : Fin 16) (s : State) (hf : (s.channel c).state = .fault) (hs : P s) :
    P (leaveFault c s) :=
  h.enterWaiting _ _ (h.putChannel _ _ _ (fun hc => by simp_all [Channel.sound, ChannelState.holdsRequest]) hs)

theorem Kept.channelEdge (h : Kept P) (c : Fin 16) (s : State) (hs : P s) : P (channelEdge c s) := by
  unfold Machine.channelEdge
  have hd := h.dropCue c s hs
  generalize Machine.dropCue c s = t at hd
  dsimp only
  split
  · split
    · exact h.firstCheckWork _ _ _ hd
    · exact hd
  · split
    · next e => exact h.holdWork _ _ _ (Channel.sampleDue_state _ _ e) hd
    · exact hd
  · split
    · exact h.pulseEndWork _ _ _ hd
    · exact hd
  · split
    · exact hd
    · next hf _ => exact h.leaveFault _ _ hf hd
  · split
    · exact hd
    · exact h.enterWaiting _ _ hd
  · split
    · exact hd
    · exact h.enterWaiting _ _ hd

theorem Kept.stopChannelWork (h : Kept P) (c : Fin 16) (s : State) (hs : P s) : P (stopChannelWork c s) := by
  unfold Machine.stopChannelWork
  have h1 := h.cancelWaiting c s hs
  generalize Machine.cancelWaiting c s = t at h1
  dsimp only
  split <;>
    first
    | exact h.freeSlotOf _ _ (h.appendFor _ _ _ _ _ (h.putChannel _ _ _ (fun _ => by simp [Channel.sound, ChannelState.holdsRequest]) h1))
    | exact h.freeSlotOf _ _ (h.putChannel _ _ _ (fun _ => by simp [Channel.sound, ChannelState.holdsRequest]) h1)
    | exact h.putChannel _ _ _ (fun _ => by simp [Channel.sound, ChannelState.holdsRequest]) h1

theorem Kept.clipEndWork (h : Kept P) (c : Fin 16) (s : State) (hs : P s) : P (clipEndWork c s) := by
  unfold Machine.clipEndWork
  dsimp only
  split
  · next hp => exact h.putChannel _ _ _ (fun hc => by simp_all [Channel.sound, ChannelState.holdsRequest]) hs
  · exact hs

/-! ### Scheduler -/

theorem Kept.loadSlot (h : Kept P) (e : Entry) (g : Nat) (ts : Word) (i : Nat) (cue : Cue) (k : Fin 32) (s : State)
    (hs : P s) : P (loadSlot e g ts i cue k s) := h.sched _ _ (h.putSlot _ _ _ hs)

theorem Kept.loadCues (h : Kept P) (e : Entry) (g : Nat) (ts : Word) (cs : List (Cue × Nat)) (s : State) (hs : P s) :
    P (loadCues e g ts cs s) := by
  induction cs generalizing s with
  | nil => exact hs
  | cons c cs ih =>
    unfold Machine.loadCues
    split
    · exact ih _ (h.loadSlot _ _ _ _ _ _ _ hs)
    · exact h.post _ _ (h.append _ _ _ _ _ _ hs)

theorem Kept.releaseNext (h : Kept P) (c : Fin 16) (must : Bool) (s : State) (hs : P s) : P (releaseNext c must s) := by
  unfold Machine.releaseNext
  split
  · exact h.deliver _ _ _ (h.putSlot _ _ _ hs)
  · exact hs

theorem Kept.releaseAll (h : Kept P) (c : Fin 16) (s : State) (hs : P s) : P (releaseAll c s) :=
  h.forEach _ _ (fun _ _ _ ht => h.releaseNext _ _ _ ht) _ hs

theorem Kept.recomputeEnds (h : Kept P) (id g : Nat) (s : State) (hs : P s) : P (recomputeEnds id g s) := h.sched _ _ hs

theorem Kept.cancelSlot (h : Kept P) (i : Fin 32) (x : Slot) (s : State) (hs : P s) : P (cancelSlot i x s) :=
  h.appendRecord _ _ _ _ _ _ _ _ (h.putSlot _ _ _ hs)

theorem Kept.purgeWaitingSlot (h : Kept P) (id : Nat) (i : Fin 32) (s : State) (hs : P s) : P (purgeWaitingSlot id i s) := by
  unfold Machine.purgeWaitingSlot
  split
  · split
    · exact h.cancelSlot _ _ _ hs
    · exact hs
  · exact hs

theorem Kept.purgeWaitingRequest (h : Kept P) (id : Nat) (i : Fin 32) (s : State) (hs : P s) :
    P (purgeWaitingRequest id i s) := by
  unfold Machine.purgeWaitingRequest
  split
  · split
    · exact h.cancelWaiting _ _ hs
    · exact hs
  · exact hs

theorem Kept.purgeInFlight (h : Kept P) (id : Nat) (i : Fin 32) (s : State) (hs : P s) : P (purgeInFlight id i s) := by
  unfold Machine.purgeInFlight
  split
  · split
    · exact h.putSlot _ _ _ (h.putChannel _ _ _ (fun hc => by simpa [Channel.sound, ChannelState.holdsRequest, giveUpSlot] using hc) hs)
    · exact hs
  · exact hs

theorem Kept.purgeEntry (h : Kept P) (id : Nat) (s : State) (hs : P s) : P (purgeEntry id s) :=
  h.forEach _ _ (fun _ _ _ ht => h.purgeInFlight _ _ _ ht) _
    (h.forEach _ _ (fun _ _ _ ht => h.purgeWaitingRequest _ _ _ ht) _
      (h.forEach _ _ (fun _ _ _ ht => h.purgeWaitingSlot _ _ _ ht) _ hs))

theorem Kept.alertCancelSlot (h : Kept P) (f : Option Nat) (i : Fin 32) (s : State) (hs : P s) :
    P (alertCancelSlot f i s) := by
  unfold Machine.alertCancelSlot
  split
  · split
    · exact h.cancelSlot _ _ _ hs
    · exact hs
  · exact hs

theorem Kept.alertCancelChannel (h : Kept P) (f : Option Nat) (c : Fin 16) (s : State) (hs : P s) :
    P (alertCancelChannel f c s) := by
  unfold Machine.alertCancelChannel
  split
  · split
    · exact h.cancelWaiting _ _ hs
    · exact hs
  · exact hs

theorem Kept.alertCancel (h : Kept P) (f : Option Nat) (s : State) (hs : P s) : P (alertCancel f s) :=
  h.forEach _ _ (fun _ _ _ ht => h.alertCancelChannel _ _ _ ht) _
    (h.forEach _ _ (fun _ _ _ ht => h.alertCancelSlot _ _ _ ht) _ hs)

end Sys2Proof.Machine
end

