-- ==== Sys2Proof/Laws/KeptTake.lean ====
section
/-! SUPPORT. What the operations of the stations, the trigger units, the take controller and the timing engine can do to
the state, said once, as in Laws/Kept.lean. -/

namespace Sys2Proof.Machine

variable {P : State → Prop}

/-! ### Stations -/

theorem crossMarks_positions (new : MarkState) (p q : Nat) (ms : List Mark) :
    (crossMarks new p q ms).map (fun m => m.position) = ms.map fun m => m.position := by
  simp only [crossMarks, List.map_map]
  apply List.map_congr_left
  intro m _
  simp only [Function.comp]
  split <;> rfl

theorem Station.sound_crossMarks (x : Station) (new : MarkState) (p q : Nat) (hx : x.sound) :
    ({ x with marks := crossMarks new p q x.marks } : Station).sound := by
  refine ⟨hx.1, ?_, ?_⟩
  · simpa [crossMarks] using hx.2.1
  · simpa [crossMarks_positions] using hx.2.2

theorem Kept.appendMark (h : Kept P) (kind : AsRunKind) (m : Mark) (v : Nat) (s : State) (hs : P s) :
    P (appendMark kind m v s) := h.appendRecord _ _ _ _ _ _ _ _ hs

theorem Kept.jumpTo (h : Kept P) (st : StationId) (q : Nat) (hq : ∀ s, P s → scriptsInRange s → q ≤ Config.maxScroll)
    (s : State) (hs : P s) : P (jumpTo st q s) := by
  unfold Machine.jumpTo Machine.crossByJump
  dsimp only
  have h1 : P (Machine.putStation st { s.station st with position := q } s) :=
    h.putStation _ _ _ (fun hr hx => ⟨hq s hs hr, hx.2⟩) hs
  exact h.forEach _ _ (fun m _ t ht => h.appendMark _ _ _ _ ht) _
    (h.putStation _ _ _ (fun _ hx => Station.sound_crossMarks _ _ _ _ hx) h1)

theorem Kept.fireMark (h : Kept P) (st : StationId) (m : Mark) (s : State) (hs : P s) : P (fireMark st m s) :=
  h.deliver _ _ _ (h.post _ _ (h.appendMark _ _ _ _ hs))

theorem Kept.crossByCount (h : Kept P) (st : StationId) (p q : Nat) (s : State) (hs : P s) : P (crossByCount st p q s) := by
  unfold Machine.crossByCount
  dsimp only
  split
  · exact h.forEach _ _ (fun m _ t ht => h.fireMark _ _ _ ht) _
      (h.putStation _ _ _ (fun _ hx => Station.sound_crossMarks _ _ _ _ hx) hs)
  · exact h.forEach _ _ (fun m _ t ht => h.appendMark _ _ _ _ ht) _
      (h.putStation _ _ _ (fun _ hx => Station.sound_crossMarks _ _ _ _ hx) hs)

theorem insertMark_length (m : Mark) (ms : List Mark) : (insertMark m ms).length = ms.length + 1 := by
  induction ms with
  | nil => rfl
  | cons k ms ih => unfold insertMark; split <;> simp [ih]

theorem insertMark_mem (m k : Mark) (ms : List Mark) : k ∈ insertMark m ms ↔ k = m ∨ k ∈ ms := by
  induction ms with
  | nil => simp [insertMark]
  | cons j ms ih => unfold insertMark; split <;> simp [ih]; tauto

theorem insertMark_sorted (m : Mark) (ms : List Mark) (hs : (ms.map fun k => k.position).Pairwise (· ≤ ·)) :
    ((insertMark m ms).map fun k => k.position).Pairwise (· ≤ ·) := by
  induction ms with
  | nil => simp [insertMark]
  | cons k ms ih =>
    simp only [List.map_cons, List.pairwise_cons, List.mem_map] at hs
    unfold insertMark
    split
    · next hk =>
      simp only [List.map_cons, List.pairwise_cons, List.mem_map]
      refine ⟨?_, ih hs.2⟩
      rintro _ ⟨j, hj, rfl⟩
      rcases (insertMark_mem m j ms).mp hj with rfl | hj
      · exact hk
      · exact hs.1 _ ⟨j, hj, rfl⟩
    · next hk =>
      simp only [List.map_cons, List.pairwise_cons, List.mem_cons, List.mem_map]
      refine ⟨?_, fun a ha => hs.1 a ha, hs.2⟩
      rintro _ (rfl | ⟨j, hj, rfl⟩)
      · omega
      · exact le_trans (by omega) (hs.1 _ ⟨j, hj, rfl⟩)

theorem Kept.loadMark (h : Kept P) (st : StationId) (e : Entry) (i : Nat) (cue : Cue) (s : State)
    (hm : (s.station st).marks.length < Config.maxMarks) (hs : P s) : P (loadMark st e i cue s) := by
  unfold Machine.loadMark
  dsimp only
  have h1 : P (Machine.putStation st { s.station st with
      marks := insertMark (markOf e i cue (s.station st).position) (s.station st).marks } s) := by
    refine h.putStation _ _ _ (fun _ hx => ⟨hx.1, ?_, insertMark_sorted _ _ hx.2.2⟩) hs
    simp only [insertMark_length]
    omega
  split
  · exact h.appendMark _ _ _ _ h1
  · exact h1

theorem Kept.loadMarkCues (h : Kept P) (st : StationId) (e : Entry) (cs : List (Cue × Nat)) (s : State) (hs : P s) :
    P (loadMarkCues st e cs s) := by
  induction cs generalizing s with
  | nil => exact hs
  | cons c cs ih =>
    unfold Machine.loadMarkCues
    split
    · next hm => exact ih _ (h.loadMark _ _ _ _ _ hm hs)
    · exact h.post _ _ (h.append _ _ _ _ _ _ hs)

theorem Kept.stationTake (h : Kept P) (e : Entry)
    (he : ∀ s, P s → scriptsInRange s → ∀ q ∈ e.scriptStart, q ≤ Config.maxScroll) (st : StationId) (s : State) (hs : P s) :
    P (stationTake e st s) := by
  unfold Machine.stationTake
  apply h.loadMarkCues
  split
  · dsimp only
    have h1 : P (Machine.putStation st { s.station st with ready := false } s) := h.putStation _ _ _ (fun _ hx => hx) hs
    split
    · next hq => exact h.jumpTo _ _ (fun t ht hr => he t ht hr _ (by simp [hq])) _ h1
    · exact h1
  · exact hs

theorem Kept.removeMark (h : Kept P) (m : Mark) (s : State) (hs : P s) : P (removeMark m s) := by
  unfold Machine.removeMark
  split
  · exact h.appendMark _ _ _ _ hs
  · split
    · exact h.cancelWaiting _ _ hs
    · exact hs
  · exact hs

theorem Kept.removeMarks (h : Kept P) (id : Nat) (st : StationId) (s : State) (hs : P s) : P (removeMarks id st s) := by
  unfold Machine.removeMarks
  dsimp only
  refine h.forEach _ _ (fun m _ t ht => h.removeMark _ _ ht) _ (h.putStation _ _ _ (fun _ hx => ⟨hx.1, ?_, ?_⟩) hs)
  · exact le_trans (List.length_filter_le _ _) hx.2.1
  · exact hx.2.2.sublist (List.filter_sublist.map _)

theorem Kept.setOverride (h : Kept P) (st : StationId) (o : Option Override) (s : State) (hs : P s) :
    P (setOverride st o s) := h.putStation _ _ _ (fun _ hx => hx) hs

theorem Kept.updateCountdown (h : Kept P) (st : StationId) (s : State) (hs : P s) : P (updateCountdown st s) := by
  unfold Machine.updateCountdown
  dsimp only
  have h1 : P (Machine.putStation st { s.station st with
      countdown := (stationRemaining s st).map (countdownOf s.clock.mode.rate), countRem := stationRemaining s st } s) :=
    h.putStation _ _ _ (fun _ hx => hx) hs
  split
  · exact h1
  · exact h.post _ _ h1

theorem Kept.updateCountdowns (h : Kept P) (s : State) (hs : P s) : P (updateCountdowns s) :=
  h.updateCountdown _ _ (h.updateCountdown _ _ hs)

/-! ### Trigger units -/

theorem TriggerGroup.sound_stageZero (g : TriggerGroup) (hg : g.sound) : ({ g with stage := 0 } : TriggerGroup).sound :=
  ⟨hg.1, hg.2.1, Nat.lt_of_lt_of_le Nat.zero_lt_one hg.1⟩

theorem Kept.resetSequence (h : Kept P) (g : Fin 2) (s : State) (hs : P s) : P (resetSequence g s) := by
  refine h.triggers s _ (fun d hd => ?_) hs
  dsimp only
  rw [vector_get_set]
  split
  · next e => exact TriggerGroup.sound_stageZero _ (e ▸ hd)
  · exact hd

theorem Kept.resetAllTriggers (h : Kept P) (s : State) (hs : P s) : P (resetAllTriggers s) := by
  refine h.triggers s _ (fun d hd => ?_) hs
  simpa using TriggerGroup.sound_stageZero _ hd

theorem Kept.requestTkc (h : Kept P) (b : Bool) (u : Fin 8) (a : TkcAction) (s : State) (hs : P s) :
    P (requestTkc b u a s) := h.tkc _ _ hs

/-- What a unit's own request to the take controller does keeps the property. -/
abbrev KeepsRequests (P : State → Prop) (tkc : Fin 8 → TkcAction → State → State) : Prop := ∀ u a s, P s → P (tkc u a s)

theorem Kept.handAction (h : Kept P) (tkc : Fin 8 → TkcAction → State → State) (ht : KeepsRequests P tkc) (u : Fin 8)
    (s : State) (hs : P s) : P (handAction tkc u s) := by
  unfold Machine.handAction
  dsimp only
  split
  · exact h.deliver _ _ _ hs
  · exact h.append _ _ _ _ _ _ hs
  · exact ht _ _ _ hs
  · exact h.append _ _ _ _ _ _ hs
  · exact ht _ _ _ hs
  · exact h.append _ _ _ _ _ _ hs
  · exact h.setOverride _ _ _ hs
  · exact h.post _ _ hs
  · exact hs

theorem Kept.disableSingle (h : Kept P) (u : Fin 8) (s : State) (hs : P s) : P (disableSingle u s) := by
  unfold Machine.disableSingle
  dsimp only
  split
  · exact h.putUnit _ _ _ hs
  · exact hs

theorem Kept.actUnit (h : Kept P) (tkc : Fin 8 → TkcAction → State → State) (ht : KeepsRequests P tkc) (u : Fin 8)
    (s : State) (hs : P s) : P (actUnit tkc u s) := by
  unfold Machine.actUnit
  dsimp only
  have h1 := h.disableSingle u _ (h.handAction tkc ht u s hs)
  split
  · exact h.resetSequence _ _ h1
  · exact h1

/-- A counted unit of the sequence that is not the final one stands below the last stage (R148, R156). -/
theorem stage_advance_lt (k : Nat) (u : Fin 8) (hk : k ≤ 4) (j : Nat) (hj : stageIn k u = some j) (hf : isFinal u = false) :
    j + 1 < k := by
  unfold stageIn at hj
  unfold isFinal at hf
  have hm : u.val % 4 < 4 := Nat.mod_lt _ (by decide)
  have hf' : u.val % 4 ≠ 3 := by simpa using hf
  dsimp only at hj
  split at hj
  · simp only [Option.some.injEq] at hj
    omega
  · simp at hj

theorem Kept.advanceSequence (h : Kept P) (u : Fin 8) (hf : isFinal u = false) (s : State) (hs : P s) :
    P (advanceSequence u s) := by
  unfold Machine.advanceSequence
  dsimp only
  split
  · next hj =>
    refine h.triggers _ _ (fun g hg => ?_) (h.putUnit _ _ _ hs)
    dsimp only
    rw [vector_get_set]
    split
    · next e => subst e; exact ⟨hg.1, hg.2.1, stage_advance_lt _ u hg.2.1 _ hj hf⟩
    · exact hg
  · exact hs

/-- Whether a unit acts is settled by its place: one that does not is no final unit (R156). -/
theorem isFinal_of_not_acts (s : State) (u : Fin 8) (h : unitActs s u = false) : isFinal u = false := by
  unfold unitActs at h
  simp_all

theorem Kept.matchUnit (h : Kept P) (tkc : Fin 8 → TkcAction → State → State) (ht : KeepsRequests P tkc) (u : Fin 8)
    (s : State) (hs : P s) : P (matchUnit tkc u s) := by
  unfold Machine.matchUnit
  split
  · exact h.actUnit tkc ht _ _ (h.putUnit _ _ _ hs)
  · next hn => exact h.advanceSequence _ (isFinal_of_not_acts s u (by simpa using hn)) _ hs

theorem Kept.testEvent (h : Kept P) (handle : Fin 8 → State → State) (hh : ∀ u s, P s → P (handle u s)) (ev : TriggerEvent)
    (s : State) (hs : P s) : P (testEvent handle ev s) :=
  h.forEach _ _ (fun u _ t ht => hh u t ht) _ (h.triggers s _ (fun _ hg => hg) hs)

theorem Kept.matchWithinTake (h : Kept P) (ev : TriggerEvent) (u : Fin 8) (s : State) (hs : P s) :
    P (matchWithinTake ev u s) := by
  unfold Machine.matchWithinTake
  split
  · exact h.requestTkc _ _ _ _ hs
  · exact h.matchUnit _ (fun u a t ht => h.requestTkc _ u a t ht) _ _ hs

theorem Kept.emit (h : Kept P) (ev : TriggerEvent) (s : State) (hs : P s) : P (emit ev s) := by
  unfold Machine.emit
  split
  · exact h.triggers _ _ (fun _ hg => hg) hs
  · exact h.testEvent _ (fun u t ht => h.matchWithinTake ev u t ht) _ _ hs

/-! ### Take controller -/

theorem Kept.postArmed (h : Kept P) (b : Nat) (s : State) (hs : P s) : P (postArmed b s) := h.post _ _ hs

theorem Kept.putArmed (h : Kept P) (a : Option Armed) (s : State) (hs : P s) : P (putArmed a s) := h.tkc _ _ hs

theorem Kept.setHolding (h : Kept P) (b : Bool) (s : State) (hs : P s) : P (setHolding b s) :=
  h.triggers _ _ (fun _ hg => hg) hs

theorem Kept.armEntry (h : Kept P) (id : Nat) (tag : Tag) (s : State) (hs : P s) : P (armEntry id tag s) := by
  unfold Machine.armEntry
  split
  · exact h.postArmed _ _ (h.putArmed _ _ (h.setEntryState _ _ _ hs))
  · split
    · split
      · exact hs
      · exact h.postArmed _ _ (h.putArmed _ _ hs)
    · exact h.postArmed _ _ (h.putArmed _ _ (h.setEntryState _ _ _ (h.setEntryState _ _ _ hs)))

theorem Kept.disarmTo (h : Kept P) (x : EntryState) (s : State) (hs : P s) : P (disarmTo x s) := by
  unfold Machine.disarmTo
  split
  · exact hs
  · exact h.postArmed _ _ (h.setEntryState _ _ _ (h.putArmed _ _ hs))

theorem Kept.autoArm (h : Kept P) (s : State) (hs : P s) : P (autoArm s) := by
  unfold Machine.autoArm
  split
  · split
    · exact h.armEntry _ _ _ hs
    · exact hs
  · exact hs

theorem Kept.rerunAutoArm (h : Kept P) (id : Nat) (s : State) (hs : P s) : P (rerunAutoArm id s) := by
  unfold Machine.rerunAutoArm
  split
  · split
    · split
      · exact h.armEntry _ _ _ hs
      · exact hs
    · exact hs
  · exact hs

theorem Kept.orderChanged (h : Kept P) (id : Nat) (s : State) (hs : P s) : P (orderChanged id s) := by
  unfold Machine.orderChanged
  split
  · exact h.autoArm _ hs
  · exact h.rerunAutoArm _ _ hs

theorem Kept.orderMoved (h : Kept P) (id : Nat) (s : State) (hs : P s) : P (orderMoved id s) := by
  unfold Machine.orderMoved
  split
  · exact hs
  · exact h.orderChanged _ _ hs

theorem Kept.leaveAir (h : Kept P) (id : Nat) (s : State) (hs : P s) : P (leaveAir id s) := by
  unfold Machine.leaveAir
  split
  · exact h.tkc _ _ hs
  · dsimp only
    exact h.emit _ _ (h.removeMarks _ _ _ (h.removeMarks _ _ _ (h.purgeEntry _ _
      (h.append _ _ _ _ _ _ (h.setEntryState _ _ _ (h.tkc _ _ hs))))))

theorem Kept.completeTransition (h : Kept P) (s : State) (hs : P s) : P (completeTransition s) := by
  unfold Machine.completeTransition
  split
  · exact h.leaveAir _ _ hs
  · exact hs

theorem Kept.placeOnAir (h : Kept P) (id t : Nat) (s : State) (hs : P s) : P (placeOnAir id t s) := by
  unfold Machine.placeOnAir
  dsimp only
  exact h.setEntryState _ _ _ (h.entry _ _ _ (fun _ => ⟨rfl, rfl, rfl⟩) (h.tkc _ _ hs))

theorem Kept.settleFormer (h : Kept P) (f : Option OnAir) (t : Nat) (s : State) (hs : P s) : P (settleFormer f t s) := by
  unfold Machine.settleFormer
  split
  · exact hs
  · split
    · exact h.leaveAir _ _ hs
    · exact h.tkc _ _ hs

theorem Kept.handOn (h : Kept P) (e : Entry)
    (he : ∀ s, P s → scriptsInRange s → ∀ q ∈ e.scriptStart, q ≤ Config.maxScroll) (t : Nat) (s : State) (hs : P s) :
    P (handOn e t s) :=
  h.emit _ _ (h.emit _ _ (h.resetAllTriggers _ (h.updateCountdowns _
    (h.stationTake e he _ _ (h.stationTake e he _ _ (h.loadCues _ _ _ _ _ hs))))))

theorem Kept.recordTake (h : Kept P) (src : TakeSource) (e : Entry) (trim t left : Nat) (u : Bool) (s : State) (hs : P s) :
    P (recordTake src e trim t left u s) := by
  unfold Machine.recordTake
  dsimp only
  apply h.post
  split
  · exact h.append _ _ _ _ _ _ (h.append _ _ _ _ _ _ hs)
  · exact h.append _ _ _ _ _ _ hs

theorem Kept.finishTake (h : Kept P) (o : Option Nat) (s : State) (hs : P s) : P (finishTake o s) := by
  unfold Machine.finishTake
  dsimp only
  apply h.autoArm
  split
  · exact h.post _ _ (h.tkc _ _ hs)
  · exact h.tkc _ _ hs

/-- The running order still holds the entry's SCRIPT_START. -/
def hasScript (e : Entry) (s : State) : Prop := ∃ x ∈ s.store.order, x.scriptStart = e.scriptStart

theorem hasScript_kept (e : Entry) : Kept (hasScript e) where
  post s k hs := by simpa [hasScript] using hs
  appendRecord s _ _ _ _ _ _ _ hs := hs
  tkc s _ hs := hs
  sched s _ hs := hs
  timing s _ hs := hs
  owed s _ hs := hs
  dirty s _ hs := hs
  entry s id g hg hs := by
    obtain ⟨x, hx, hq⟩ := hs
    refine ⟨if x.id = id then g x else x, List.mem_map.mpr ⟨x, hx, rfl⟩, ?_⟩
    split
    · rw [(hg x).2.2, hq]
    · exact hq
  channels s _ _ hs := hs
  stations s _ _ hs := hs
  triggers s _ _ hs := hs

theorem hasScript_inRange (e : Entry) (s : State) (hs : hasScript e s) (hr : scriptsInRange s) :
    ∀ q ∈ e.scriptStart, q ≤ Config.maxScroll := by
  obtain ⟨x, hx, hq⟩ := hs
  rw [← hq]
  exact hr x hx

theorem State.entry?_mem (s : State) (id : Nat) (e : Entry) (h : s.entry? id = some e) : e ∈ s.store.order :=
  List.mem_of_find?_eq_some h

theorem Kept.takeEntry (h : Kept P) (src : TakeSource) (id t : Nat) (s : State) (hs : P s) : P (takeEntry src id t s) := by
  unfold Machine.takeEntry
  split
  · exact hs
  · next e he =>
    have k := h.and (hasScript_kept e)
    have h0 : P s ∧ hasScript e s := ⟨hs, e, State.entry?_mem s id e he, rfl⟩
    dsimp only
    refine (k.finishTake _ _ (k.recordTake _ _ _ _ _ _ _ (k.handOn e ?_ _ _ (k.settleFormer _ _ _
      (k.placeOnAir _ _ _ (k.completeTransition _ h0)))))).1
    exact fun t ht hr => hasScript_inRange e t ht.2 hr

theorem Kept.holdingEvents (h : Kept P) (g : State → State) (hg : ∀ s, P s → P (g s)) (s : State) (hs : P s) :
    P (holdingEvents g s) := h.setHolding _ _ (hg _ (h.setHolding _ _ hs))

theorem Kept.carryOut (h : Kept P) : KeepsRequests P carryOut := by
  intro u a s hs
  unfold Machine.carryOut
  split
  · refine h.holdingEvents _ (fun t ht => ?_) _ hs
    unfold Machine.triggerTake
    split
    · exact h.append _ _ _ _ _ _ ht
    · exact h.takeEntry _ _ _ _ ht
  · unfold Machine.triggerArm
    split
    · exact hs
    · split
      · exact h.tkc _ _ (h.armEntry _ _ _ hs)
      · exact hs

theorem Kept.handleEvent (h : Kept P) (ev : TriggerEvent) (s : State) (hs : P s) : P (handleEvent ev s) :=
  h.testEvent _ (fun u t ht => h.matchUnit _ h.carryOut u t ht) _ _ hs

theorem Kept.settle (h : Kept P) (k : Nat) (s : State) (hs : P s) : P (settle k s) := by
  induction k generalizing s with
  | zero => exact h.triggers _ _ (fun _ hg => hg) hs
  | succ k ih =>
    unfold Machine.settle
    split
    · exact hs
    · exact ih _ (h.handleEvent _ _ (h.triggers _ _ (fun _ hg => hg) hs))

/-- When the events held have been tested, none is left (R158). -/
theorem settle_held (k : Nat) (s : State) : (settle k s).triggers.held = [] := by
  induction k generalizing s with
  | zero => rfl
  | succ k ih =>
    unfold settle
    split
    · assumption
    · exact ih _

theorem Kept.settleEvents (h : Kept P) (s : State) (hs : P s) : P (settleEvents s) := h.settle _ _ hs

theorem Kept.meetEvent (h : Kept P) (ev : TriggerEvent) (s : State) (hs : P s) : P (meetEvent ev s) :=
  h.settleEvents _ (h.handleEvent _ _ hs)

theorem Kept.thenEvents (h : Kept P) (g : State → State) (hg : ∀ s, P s → P (g s)) (s : State) (hs : P s) :
    P (thenEvents g s) := h.settleEvents _ (h.holdingEvents _ hg _ hs)

theorem Kept.serveRequest (h : Kept P) (r : TkcRequest) (s : State) (hs : P s) : P (serveRequest r s) := by
  unfold Machine.serveRequest
  split
  · exact h.carryOut _ _ _ hs
  · exact h.matchUnit _ h.carryOut _ _ hs

theorem Kept.serveTriggers (h : Kept P) (s : State) (hs : P s) : P (serveTriggers s) :=
  h.settleEvents _ (h.forEach _ _ (fun r _ t ht => h.serveRequest r t ht) _ (h.tkc _ _ hs))

theorem Kept.replaceTarget (h : Kept P) (g : Nat) (s : State) (hs : P s) : P (replaceTarget g s) := by
  unfold Machine.replaceTarget
  split
  · exact hs
  · exact h.emit _ _ (h.updateCountdowns _ (h.sched _ _ (h.tkc _ _ hs)))

theorem Kept.missPost (h : Kept P) (e : Entry) (s : State) (hs : P s) : P (missPost e s) :=
  h.entry _ _ _ (fun _ => ⟨rfl, rfl, rfl⟩) (h.append _ _ _ _ _ _ (h.post _ _ hs))

theorem Kept.missPosts (h : Kept P) (s : State) (hs : P s) : P (missPosts s) :=
  h.forEach _ _ (fun _ _ _ ht => h.missPost _ _ ht) _ hs

theorem Kept.skipForPost (h : Kept P) (e : Entry) (s : State) (hs : P s) : P (skipForPost e s) := by
  unfold Machine.skipForPost
  dsimp only
  apply h.append
  apply h.setEntryState
  split
  · exact h.postArmed _ _ (h.putArmed _ _ hs)
  · exact hs

theorem Kept.reachPost (h : Kept P) (q : Entry) (s : State) (hs : P s) : P (reachPost q s) := by
  unfold Machine.reachPost
  dsimp only
  exact h.append _ _ _ _ _ _ (h.post _ _ (h.takeEntry _ _ _ _ (h.armEntry _ _ _
    (h.forEach _ _ (fun _ _ _ ht => h.skipForPost _ _ ht) _ hs))))

theorem Kept.handlePosts (h : Kept P) (s : State) (hs : P s) : P (handlePosts s) := by
  unfold Machine.handlePosts
  dsimp only
  have h1 := h.missPosts s hs
  split
  · exact h1
  · split
    · split
      · exact h.reachPost _ _ h1
      · exact h.append _ _ _ _ _ _ h1
    · exact h1

theorem Kept.fallbackTake (h : Kept P) (f : Nat) (s : State) (hs : P s) : P (fallbackTake f s) := by
  unfold Machine.fallbackTake
  split
  · exact h.completeTransition _ hs
  · exact h.takeEntry _ _ _ _ hs

theorem Kept.alertDisarm (h : Kept P) (s : State) (hs : P s) : P (alertDisarm s) := by
  unfold Machine.alertDisarm
  split
  · split
    · exact hs
    · exact h.disarmTo _ _ hs
  · exact hs

theorem Kept.airAlert (h : Kept P) (s : State) (hs : P s) : P (airAlert s) := by
  unfold Machine.airAlert
  dsimp only
  apply h.append
  apply h.post
  apply h.setOverride
  apply h.setOverride
  apply h.alertCancel
  have h2 := h.alertDisarm _ (h.tkc s { s.tkc with engine := .safe } hs)
  split
  · exact h.fallbackTake _ _ h2
  · exact h2

theorem Kept.repeatAlert (h : Kept P) (s : State) (hs : P s) : P (repeatAlert s) := h.append _ _ _ _ _ _ (h.post _ _ hs)

/-! ### Timing engine -/

theorem Kept.noteCreated (h : Kept P) (id : Nat) (s : State) (hs : P s) : P (noteCreated id s) := h.timing _ _ hs

theorem Kept.beginPass (h : Kept P) (s : State) (hs : P s) : P (beginPass s) :=
  h.dirty _ false (h.timing s (Machine.beginPass s).timing hs)

theorem Kept.reportTiming (h : Kept P) (s : State) (hs : P s) : P (reportTiming s) := by
  unfold Machine.reportTiming
  dsimp only
  split
  · split
    · exact h.post _ _ (h.timing _ _ hs)
    · exact h.timing _ _ hs
  · exact hs

theorem Kept.publish (h : Kept P) (s : State) (hs : P s) : P (publish s) := by
  unfold Machine.publish
  split
  · exact hs
  · exact h.reportTiming _ (h.timing _ _ hs)

/-! ### The work of an edge -/

theorem Kept.clockTick (h : Kept P) (s : State) (hs : P s) : P (clockTick s) := by
  unfold Machine.clockTick
  dsimp only
  split
  · exact h.post _ _ hs
  · exact hs

theorem Kept.finishTransition (h : Kept P) (s : State) (hs : P s) : P (finishTransition s) := by
  unfold Machine.finishTransition
  split
  · exact h.thenEvents _ (fun t ht => h.completeTransition t ht) _ hs
  · exact hs

theorem Kept.atEdge (h : Kept P) (g : State → State) (hg : ∀ s, P s → P (g s)) (s : State) (hs : P s) : P (atEdge g s) :=
  h.sched _ _ (hg _ (h.sched _ _ hs))

theorem Kept.settleItem (h : Kept P) (i : EdgeItem) (s : State) (hs : P s) : P (settleItem i s) := h.owed _ _ hs

theorem Kept.performItem (h : Kept P) (i : EdgeItem) (s : State) (hs : P s) : P (performItem i s) := by
  unfold Machine.performItem
  split
  · split
    · exact h.clockTick _ (h.settleItem _ _ hs)
    · exact hs
  · split
    · exact h.beginPass _ (h.settleItem _ _ hs)
    · exact hs
  · exact h.atEdge _ (fun t ht => h.finishTransition t ht) _ hs
  · split
    · exact h.atEdge _ (fun t ht => h.serveTriggers _ (h.handlePosts _ ht)) _ (h.settleItem _ _ hs)
    · exact hs
  · split
    · exact h.atEdge _ (fun t ht => h.meetEvent _ t ht) _ (h.settleItem _ _ hs)
    · exact hs
  · split
    · exact h.updateCountdown _ _ (h.settleItem _ _ hs)
    · exact hs
  · exact h.channelEdge _ _ hs
  · exact h.releaseNext _ _ _ hs

theorem Kept.performItems (h : Kept P) (is : List EdgeItem) (s : State) (hs : P s) : P (performItems is s) :=
  h.forEach _ _ (fun _ _ _ ht => h.performItem _ _ ht) _ hs

theorem Kept.channelWithin (h : Kept P) (c : Fin 16) (s : State) (hs : P s) : P (channelWithin c s) := by
  unfold Machine.channelWithin
  split
  · exact h.dropCue _ _ hs
  · exact h.channelEdge _ _ hs

theorem Kept.edgeWork (h : Kept P) (order : List EdgeItem) (s : State) (hs : P s) : P (edgeWork order s) :=
  h.forEach _ _ (fun _ _ _ ht => h.channelWithin _ _ ht) _ (h.performItems _ _ (h.performItems _ _ hs))

theorem Kept.finishEdge (h : Kept P) (s : State) (hs : P s) : P (finishEdge s) :=
  h.performItems _ _ (h.forEach _ _ (fun _ _ _ ht => h.releaseAll _ _ ht) _ (h.performItems _ _ hs))

theorem Kept.openEdge (h : Kept P) (rdy : BitVec 16) (s : State) (hs : P s) : P (openEdge rdy s) := by
  have h1 := h.channels s (Machine.openEdge rdy s).channels (fun c hc => ?_) hs
  · have h2 := h.sched _ (Machine.openEdge rdy s).sched h1
    have h3 := h.tkc _ (Machine.openEdge rdy s).tkc h2
    exact h.owed _ owedItems h3
  unfold Machine.openEdge
  simp only [Fin.getElem_fin, mapTable_get]
  unfold Channel.newFrame Channel.sound at *
  simp only [State.channel, Fin.getElem_fin] at hc ⊢
  split <;> simp_all

end Sys2Proof.Machine
end

