-- ==== Sys2Proof/Laws/LinkFrames.lean ====
section
/-! SUPPORT. What a link's receiver and the taking of a command can do, said once: a command that ends with an input frame
leads to the reply of its body, and nothing else of the link matters. -/

namespace Sys2Proof.Machine

/-- A command that is open to the role is checked by its block alone (R185, R189). -/
theorem permitted_of_opens (code : Byte) (role : Role) (h : opens code role = true) : permitted code role = .ok () := by
  unfold opens at h
  unfold permitted
  cases hr : commandRow? code with
  | none => simp [hr] at h
  | some r => simpa [hr] using h

theorem Link.cutReply_role (l : Link) : l.cutReply.role = l.role := by unfold Link.cutReply; split <;> rfl

theorem Link.unheld_role (l : Link) : l.unheld.role = l.role := by
  unfold Link.unheld
  split
  · split <;> rfl
  · rfl

/-- The link of a state that a command begins from keeps its role. -/
theorem begun_role (s : State) (n : Fin 4) : ((s.begun n).link n).role = (s.link n).role := by
  unfold State.begun
  split <;> simp [Link.cutReply_role, Link.unheld_role]

/-- A command frame classified in command position is taken when it owes no data frame (R184). -/
theorem classifyCommand_ends (l : Link) (k : Command) (f : Word) (hk : commandOf f = k) (h0 : k.code ≠ 0)
    (hn : dataFramesOf k.code = 0) : l.classifyCommand f = { link := l.cutReply, taken := some k, consumed := true } := by
  subst hk
  have h0' : frameCode f ≠ 0 := h0
  unfold Link.classifyCommand
  simp only [h0', if_false, hn]

/-- The receiver at the frame that ends a command: the command is taken (R184, R187). -/
theorem receive_ends (l : Link) (k : Command) (f : Word) (hd : l.disregard = false) (hf : f ≠ allOnesFrame)
    (he : l.endsWith k f = true) :
    l.receive f =
      { link := match l.receiver with
          | .command => l.unheld.cutReply
          | .data .. => { l.unheld with receiver := .command },
        taken := some k, consumed := !l.late } := by
  cases hr : l.receiver with
  | command =>
    simp only [Link.endsWith, hr, Bool.and_eq_true, decide_eq_true_eq, bne_iff_ne, ne_eq, beq_iff_eq] at he
    obtain ⟨⟨hk, h0⟩, hn⟩ := he
    cases hh : l.held with
    | false =>
      simp only [Link.receive, Link.classify, hd, hf, hh, hr, Bool.false_eq_true, if_false, Link.late, Link.unheld,
        Bool.not_false]
      exact classifyCommand_ends l k f hk h0 hn
    | true =>
      simp only [Link.receive, Link.receiveAfterHeld, Link.classify, hd, hf, hh, hr, Bool.false_eq_true, if_false, if_true,
        Link.late, Link.unheld, Bool.not_false]
      exact classifyCommand_ends _ k f hk h0 hn
  | data j owed =>
    cases hh : l.held with
    | false =>
      simp only [Link.endsWith, hr, hh, Bool.false_eq_true, if_false, Bool.and_eq_true, decide_eq_true_eq, beq_iff_eq] at he
      obtain ⟨rfl, rfl⟩ := he
      simp [Link.receive, Link.classify, Link.takeData, hd, hf, hr, hh, Link.late, Link.unheld]
    | true =>
      simp only [Link.endsWith, hr, hh, if_true, Bool.or_eq_true, Bool.and_eq_true, decide_eq_true_eq, beq_iff_eq] at he
      rcases he with ⟨rfl, rfl⟩ | ⟨rfl, rfl⟩
      · simp [Link.receive, Link.receiveAfterHeld, Link.takeData, hd, hf, hr, hh, Link.late, Link.unheld]
      · simp [Link.receive, Link.receiveAfterHeld, Link.classify, Link.takeData, hd, hf, hr, hh, Link.late, Link.unheld]

/-- A command's row at the frame that ends the command: the block answers on the state the command begins from, and the
reply of its answer is started (R184, R185). -/
theorem onCommand_completes (n : Fin 4) (k : Command) (f : Word) (s : State) (body : Command → State → Answer)
    (h : s.completes n k f = true) :
    onCommand k.code n f body s =
      .next (match body k (s.begun n) with
        | .ok (t, data) => s.answered n k.code data t
        | .error r => s.declined n k.code r (s.begun n)) := by
  simp only [State.completes, Bool.and_eq_true, Bool.not_eq_true', bne_iff_ne, ne_eq] at h
  obtain ⟨⟨⟨⟨hrst, hd⟩, hf⟩, he⟩, ho⟩ := h
  have hb : putLink n (match (s.link n).receiver with
      | .command => (s.link n).unheld.cutReply
      | .data .. => { (s.link n).unheld with receiver := .command }) s = s.begun n := by
    unfold State.begun
    cases (s.link n).receiver <;> rfl
  unfold onCommand onFrame
  rw [receive_ends _ k f hd hf he]
  simp only [hrst, Bool.false_eq_true, if_false, hb, beq_self_eq_true, if_true, takeCommand, answerTo, begun_role,
    permitted_of_opens _ _ ho]
  cases body k (s.begun n) with
  | error r =>
    cases hl : (s.link n).late <;> simp [refuse, endFrame, Link.shift, refusedReply, State.declined, Link.starts, hl]
  | ok p =>
    cases hl : (s.link n).late <;> simp [accept, endFrame, Link.shift, acceptedReply, State.answered, Link.starts, hl]

end Sys2Proof.Machine
end

