-- ==== Sys2Proof/WellFormed.lean ====
section
/-! DEFINITION. When a command or event is well formed: the frame of a row without data frames carries the row's code, a
frame named as a command's, as NOP or as data is not the all-ones frame (which is held, R187), an unknown command's code
names no command, and an edge names no piece of work twice. -/

namespace Sys2Proof

open Machine

/-- The frame is the command frame of the code. -/
def isCommandFrame (code : Nat) (f : Word) : Bool := (frameCode f).toNat == code && f != allOnesFrame

/-- The frame is classified when it is received (R187). -/
def isClassified (f : Word) : Bool := f != allOnesFrame

/-- An edge's order names no piece of work twice, but for releases, of which one channel may have several. -/
def EdgeInput.ordered (e : EdgeInput) : Bool :=
  let once := e.order.filter fun i => match i with
    | .release _ => false
    | _ => true
  decide once.Nodup

/-- Well-formedness of each row. The last frame of a command with data frames is only required to be a classified
frame: where the last data frame itself is all ones, the row stands at the end of the frame after it (R187). -/
def Instr.wf : Instr → Bool
  | .powerOn _ => true
  | .rstAssert => true
  | .rstRelease _ => true
  | .refinPulse _ e => e.ordered
  | .refLoss e => e.ordered
  | .timebaseEdge e => e.ordered
  | .timingPublish => true
  | .transitionComplete => true
  | .scheduleRelease _ => true
  | .firstCheck _ => true
  | .holdLimitReached _ => true
  | .pulseEnd _ => true
  | .panicFall => true
  | .gpiEdge _ _ => true
  | .encoderEdge _ _ _ => true
  | .readyPress _ => true
  | .linkResync _ => true
  | .unknownCommand _ f => isClassified f && frameCode f != 0 && (commandRow? (frameCode f)).isNone
  | .nop _ f => isCommandFrame 0x00 f
  | .readClock _ f => isCommandFrame 0x01 f
  | .setTime _ f => isClassified f
  | .runClock _ f => isCommandFrame 0x03 f
  | .stopClock _ f => isCommandFrame 0x04 f
  | .setRate _ f => isCommandFrame 0x05 f
  | .newEntry _ f => isClassified f
  | .deleteEntry _ f => isCommandFrame 0x11 f
  | .moveEntry _ f => isCommandFrame 0x12 f
  | .writeField _ f => isClassified f
  | .readField _ f => isCommandFrame 0x14 f
  | .setFlags _ f => isCommandFrame 0x15 f
  | .clearFlags _ f => isCommandFrame 0x16 f
  | .addCue _ f => isClassified f
  | .removeCue _ f => isCommandFrame 0x18 f
  | .readCue _ f => isCommandFrame 0x19 f
  | .readOrder _ f => isCommandFrame 0x1A f
  | .clearRundown _ f => isCommandFrame 0x1B f
  | .reportDuration _ f => isClassified f
  | .arm _ f => isCommandFrame 0x20 f
  | .disarm _ f => isCommandFrame 0x21 f
  | .take _ f => isCommandFrame 0x22 f
  | .takeForced _ f => isCommandFrame 0x23 f
  | .drop _ f => isCommandFrame 0x24 f
  | .restore _ f => isCommandFrame 0x25 f
  | .setFallback _ f => isCommandFrame 0x26 f
  | .resume _ f => isCommandFrame 0x27 f
  | .readTakeStatus _ f => isCommandFrame 0x28 f
  | .readTiming _ f => isCommandFrame 0x30 f
  | .readSegment _ f => isCommandFrame 0x31 f
  | .setReporting _ f => isCommandFrame 0x32 f
  | .readSchedule _ f => isCommandFrame 0x40 f
  | .setChannel _ f => isClassified f
  | .fireNow _ f => isClassified f
  | .stopChannel _ f => isCommandFrame 0x43 f
  | .clipEnd _ f => isCommandFrame 0x44 f
  | .readChannel _ f => isCommandFrame 0x45 f
  | .setStation _ f => isClassified f
  | .setPosition _ f => isClassified f
  | .lampOverride _ f => isCommandFrame 0x52 f
  | .lampRelease _ f => isCommandFrame 0x53 f
  | .readStation _ f => isCommandFrame 0x54 f
  | .readMark _ f => isCommandFrame 0x55 f
  | .setTrigger _ f => isClassified f
  | .enableTrigger _ f => isCommandFrame 0x61 f
  | .disableTrigger _ f => isCommandFrame 0x62 f
  | .setChain _ f => isCommandFrame 0x63 f
  | .readTrigger _ f => isCommandFrame 0x64 f
  | .setTally _ f => isClassified f
  | .readTally _ f => isCommandFrame 0x71 f
  | .readAsRun _ f => isClassified f
  | .nextNotice _ f => isCommandFrame 0x90 f
  | .repeatNotice _ f => isCommandFrame 0x91 f
  | .noticeDone _ f => isCommandFrame 0x92 f
  | .setMask _ f => isCommandFrame 0x93 f
  | .setLevels _ f => isCommandFrame 0x94 f
  | .readLink _ f => isCommandFrame 0x95 f
  | .clearLinkFlags _ f => isCommandFrame 0x96 f
  | .dataFrame _ f => isClassified f
  | .allOnesFrameHeld _ => true

end Sys2Proof
end

