-- ==== Sys2Proof/Tests/Slice0.lean ====
section
/-! SUPPORT. The model's own tests: a term each check of well-formedness refuses, the spec's worked cases, and a witness
for the hypotheses of each statement. The expected values are the spec's, from the place each test names. -/

namespace Sys2Proof.Tests

open Machine

set_option Elab.async false

/-! ### Small states -/

/-- The state with link n ready to take the command k at its last frame. -/
def ready (n : Fin 4) (k : Command) (s : State) : State :=
  match k.data with
  | [] => s
  | _ => putLink n { s.link n with receiver := .data { k with data := k.data.dropLast } 1 } s

/-- The last frame of a command. -/
def lastFrame (k : Command) : Word := k.data.getLastD (commandFrame k.code k.sel k.operand)

/-- A command of code, selector, operand and data frames. -/
def cmd (code sel : Byte) (op : Half) (data : List Word) : Command := { code := code, sel := sel, operand := op, data := data }

/-- The state after an outcome. -/
def after (o : Host.Outcome State Fault Refusal) (s : State) : State :=
  match o with
  | .next t => t
  | _ => s

/-- The frames a link is about to send. -/
def sends (n : Fin 4) (s : State) : List Word := (s.link n).out.word :: (s.link n).reply.map fun o => o.word

/-- The reply on link n to the command k at a row. -/
def replyTo (row : Fin 4 → Word → Instr) (n : Fin 4) (k : Command) (s : State) : List Word :=
  sends n (after (exec (row n (lastFrame k)) (ready n k s)) s)

/-- An entry, in state READY but for the state given. -/
def item (id : Nat) (x : EntryState) (planned : Nat) : Entry := { newRecord id .story 0 planned with state := x }

/-- The part with a running order, and a frame index and time of day. -/
def withOrder (order : List Entry) (frame : Word) (tod : Nat) : State :=
  { State.reset with
    store := { State.reset.store with order := order }, clock := { State.reset.clock with frame := frame, tod := tod } }

/-- The running order of the worked sequence "a take during a transition": 20 on air, 21 armed, 22 and 23 ready. -/
def gallery : State :=
  let s := withOrder [ { item 20 .onAir 1500 with takeIndex := some 80000, takeTime := some 0 }, item 21 .armed 750,
    item 22 .ready 100, item 23 .ready 100 ] 81000 0
  { s with tkc := { s.tkc with armed := some { id := 21, tag := .manual }, pgm := some { id := 20, target := 1500 } } }

/-- `gallery` with an outgoing entry 22 on air, at the last edge of its transition. -/
def crossing : State :=
  { gallery with
    store := { gallery.store with order := gallery.store.order.map fun e =>
      if e.id = 22 then { e with state := .onAir, takeIndex := some 79000, takeTime := some 0 } else e },
    tkc := { gallery.tkc with out := some { id := 22, target := 100, count := 1, due := true } } }

/-- The gallery in the SAFE state. -/
def safe : State := { gallery with tkc := { gallery.tkc with engine := .safe } }

/-- A state with one unit enabled, which stands alone, as in "a chain of three" for unit 4. -/
def watching (c : Condition) (a : Action) (s : State) : State :=
  putUnit 4 { condition := c, action := a, mode := .repeating, enable := true, latch := false, dropped := false,
              timeMemory := false, spent := false } s

/-! ### Well-formedness refuses -/

theorem test_wf_refuses_double_work : (Instr.timebaseEdge { rdy := 0, order := [.tick, .tick] }).wf = false := by decide
theorem test_wf_refuses_double_work_of_pulse :
    (Instr.refinPulse 0 { rdy := 0, order := [.station .a, .posts, .station .a] }).wf = false := by decide
theorem test_wf_refuses_double_work_of_loss :
    (Instr.refLoss { rdy := 0, order := [.channel 3, .channel 3] }).wf = false := by decide
theorem test_wf_admits_two_releases :
    (Instr.timebaseEdge { rdy := 0, order := [.release 3, .release 3, .channel 3] }).wf = true := by decide
theorem test_wf_refuses_another_code : (Instr.readClock 0 0x00000002).wf = false := by decide
theorem test_wf_refuses_nop_of_all_ones : (Instr.nop 0 0xFFFFFFFF).wf = false := by decide
theorem test_wf_refuses_data_of_all_ones : (Instr.dataFrame 0 0xFFFFFFFF).wf = false := by decide
theorem test_wf_refuses_known_as_unknown : (Instr.unknownCommand 0 0x00000022).wf = false := by decide
theorem test_wf_refuses_nop_as_unknown : (Instr.unknownCommand 0 0x12345600).wf = false := by decide
theorem test_wf_admits_unknown : (Instr.unknownCommand 0 0x00000006).wf = true := by decide
theorem test_wf_refuses_all_ones_as_last_frame : (Instr.newEntry 0 0xFFFFFFFF).wf = false := by decide

/-! ### Rows of the links (R190, section 11.6) -/

/-- The TAKE transaction's frame names TAKE with length 25. -/
theorem test_take_frame : commandFrame 0x22 0 25 = 0x00190022 := by decide
theorem test_take_frame_code : frameCode 0x00190022 = 0x22 := by decide
theorem test_take_frame_operand : frameOperand 0x00190022 = 25 := by decide
theorem test_wrong_row_is_refused :
    (match exec (.take 1 0x00000021) State.reset with
      | .refused .otherCommand => true
      | _ => false) = true := by decide

/-! ### Timecode (section 1.4, "Conversions, worked") -/

theorem test_drop_label : labelOf .df2997 1000000 = { hh := 9, mm := 16, ss := 6, ff := 22 } := by decide
theorem test_drop_count : countOf .df2997 { hh := 9, mm := 16, ss := 6, ff := 22 } = 1000000 := by decide
theorem test_whole_label : labelOf .f30 1000000 = { hh := 9, mm := 15, ss := 33, ff := 10 } := by decide
theorem test_block_labels : [0, 1799, 1800, 17981, 17982, 2589407].map (labelOf .df2997) =
    [ { hh := 0, mm := 0, ss := 0, ff := 0 }, { hh := 0, mm := 0, ss := 59, ff := 29 },
      { hh := 0, mm := 1, ss := 0, ff := 2 }, { hh := 0, mm := 9, ss := 59, ff := 29 },
      { hh := 0, mm := 10, ss := 0, ff := 0 }, { hh := 23, mm := 59, ss := 59, ff := 29 } ] := by decide
theorem test_promotion : promote .df2997 { hh := 0, mm := 1, ss := 0, ff := 0 } = { hh := 0, mm := 1, ss := 0, ff := 2 } := by decide
theorem test_no_promotion : promote .df2997 { hh := 0, mm := 10, ss := 0, ff := 0 } = { hh := 0, mm := 10, ss := 0, ff := 0 } := by
  decide
theorem test_bad_frames : (checkLabel .df2997 0x0001001E).isNone = true := by decide
theorem test_bad_hours : (checkLabel .f25 0x18000000).isNone = true := by decide
/-- "Setting, running and stopping, worked": 10:59:30:00 is count 989,250. -/
theorem test_set_count : countOf .f25 { hh := 10, mm := 59, ss := 30, ff := 0 } = 989250 := by decide
theorem test_midnight : edgeTimeOfDay { State.reset.clock with tod := 2159999, run := .running } = 0 := by decide

/-! ### Countdown (R143's table, f = 25) -/

theorem test_countdown : ([1500, 1476, 1475, 26, 25, 1, 0, -1, -24, -25] : List Int).map (countdownOf 25) =
    [60, 60, 59, 2, 1, 1, 0, 0, 0, -1] := by decide
theorem test_countdown_clamp : countdownOf 25 (-249975) = -9999 := by decide

/-! ### Worked cases of the commands -/

/-- The TAKE transaction (chapter 11): the status frame, the take index 13C68h, and 21, 20, 25. -/
theorem test_take_reply : replyTo .take 1 (cmd 0x22 0 25 []) gallery = [0x00220200, 0x00013C68, 0x00191415] := by decide +kernel
/-- The same take's row of "a take during a transition": 21 on air, 20 outgoing with 25, 22 armed. -/
theorem test_take_slots :
    let t := after (exec (.take 1 0x00190022) gallery) gallery
    t.tkc.pgm.map (·.id) = some 21 ∧ t.tkc.out.map (fun o => (o.id, o.count)) = some (20, 25)
      ∧ t.tkc.armed.map (·.id) = some 22 := by decide +kernel
theorem test_take_in_safe : replyTo .take 1 (cmd 0x22 0 25 []) safe = [0x00220006] := by decide +kernel
/-- "A take during a transition": TAKE FORCED with length 0 cuts 20 to DONE. -/
theorem test_forced_cut :
    let t := after (exec (.takeForced 1 0x00000023) gallery) gallery
    t.store.order.map (·.state) = [.done, .onAir, .armed, .ready] ∧ t.tkc.out = none := by decide +kernel
/-- "A panic": with no fallback nothing is taken, the armed entry is READY, and the engine is SAFE (R175). -/
theorem test_panic :
    let t := after (exec .panicFall gallery) gallery
    t.tkc.engine = .safe ∧ t.tkc.armed = none ∧ t.store.order.map (·.state) = [.onAir, .ready, .ready, .ready] := by decide +kernel
/-- The outgoing entry at the end of its transition is DONE (R60). -/
theorem test_transition_complete :
    let t := after (exec .transitionComplete crossing) crossing
    t.tkc.out = none ∧ t.store.order.map (·.state) = [.onAir, .armed, .done, .ready]
      ∧ t.asRun.ring.map (fun r => (r.kind, r.entry, r.value)) = [(.done, some 22, 2000)] := by decide +kernel
/-- NEW ENTRY takes the lowest free id, 1, into the empty order. -/
theorem test_new_entry :
    replyTo .newEntry 0 (cmd 0x10 0 0 [7, 500]) State.reset = [0x00100200, 500, 0x00000001] := by decide +kernel
theorem test_new_entry_clamps :
    replyTo .newEntry 0 (cmd 0x10 0 2 [7, 200000]) State.reset = [0x00100200, 131071, 0x00000001] := by decide +kernel
theorem test_delete_on_air : replyTo .deleteEntry 0 (cmd 0x11 20 0 []) gallery = [0x00110006] := by decide +kernel
theorem test_move_entry :
    (after (exec (.moveEntry 0 0x00151612) gallery) gallery).store.order.map (·.id) = [20, 21, 22, 23]
      ∧ (after (exec (.moveEntry 0 0x00001712) gallery) gallery).store.order.map (·.id) = [23, 20, 21, 22] := by decide +kernel
theorem test_write_planned :
    replyTo .writeField 0 (cmd 0x13 22 2 [131072]) gallery = [0x00130200, 100, 131071] := by decide +kernel
theorem test_read_state : replyTo .readField 2 (cmd 0x14 21 8 []) gallery = [0x00140100, 1] := by decide +kernel
theorem test_float_disarms :
    (after (exec (.setFlags 0 0x00011515) gallery) gallery).store.order.map (·.state) = [.onAir, .ready, .armed, .ready] := by
  decide +kernel
theorem test_clear_on_air : replyTo .clearRundown 0 (cmd 0x1B 0 0 []) gallery = [0x001B0006] := by decide +kernel
theorem test_drop_armed :
    (after (exec (.drop 1 0x00001524) gallery) gallery).store.order.map (·.state) = [.onAir, .dropped, .armed, .ready] := by
  decide +kernel
theorem test_disarm_holds :
    let t := after (exec (.disarm 1 0x00000021) gallery) gallery
    t.tkc.armed = none ∧ t.tkc.holdArm = true := by decide +kernel
/-- R12, with R11's fields in R191's places; STOPPED is coded 1 and LOST 1 by log entry 6. -/
theorem test_clock_at_reset :
    replyTo .readClock 3 (cmd 0x01 0 0 []) State.reset = [0x00010600, 0, 0, 0, 2160000, 0xFFFFFFFF, 0x01000100] := by decide +kernel
/-- SET TIME 00:01:00;00 in DF2997 is stored as count 1,800. -/
theorem test_set_time :
    let s := { State.reset with clock := { State.reset.clock with mode := .df2997 } }
    (after (exec (.setTime 0 0x00010000) (ready 0 (cmd 0x02 0 0 [0x00010000]) s)) s).clock.setPending = some 1800 := by decide +kernel
/-- R4: a pulse 11 ms after the latest edge gives no edge; one 30 ms after it gives one. -/
theorem test_pulse_absorbed : (after (exec (.refinPulse 3300 { rdy := 0, order := [] }) gallery) gallery).clock.frame = 81000 := by
  decide +kernel
/-- While RST is asserted the clock alone takes the edge (R1). -/
theorem test_pulse_gives_edge :
    let s := { gallery with rst := true }
    (after (exec (.refinPulse 9000 { rdy := 0, order := [] }) s) s).clock.frame = 81001 := by decide +kernel
/-- "A chain of three": a sequence of three leaves unit 4 of the group alone. -/
theorem test_chain_places : [4, 5, 6, 7].map (stageIn 3) = [none, some 0, some 1, some 2] := by decide +kernel
/-- "Crossing and jumping": a counted edge crosses the marks at 150 and leaves the one at 300. -/
theorem test_marks_crossed :
    let m (i p : Nat) : Mark := { entry := 40, cueIndex := i, story := 0, position := p, channel := 2, action := .fire,
                                  argument := 11, state := .armed }
    let s := putStation .a { gallery.station .a with position := 140, step := 10, enables := 1, marks := [m 1 150, m 4 300] } gallery
    ((after (exec (.encoderEdge .a .pa true) s) s).station .a).marks.map (·.state) = [.fired, .armed] := by decide +kernel
theorem test_encoder_disabled :
    ((after (exec (.encoderEdge .a .pa true) gallery) gallery).station .a).position = 0 := by decide +kernel
/-- "Worked functions": F = FCh is A or B, C0h is A and B, FEh is A or B or C. -/
theorem test_functions :
    [0xFC, 0xC0, 0xFE].map (fun f : Byte => [0, 1, 2, 4, 6].map fun i : Nat => f.getLsbD i) =
      [[false, false, true, true, true], [false, false, false, false, true], [false, true, true, true, true]] := by decide +kernel
/-- An empty ring answers END, every field of the record and the number lost absent (R181, R196). -/
theorem test_as_run_empty :
    replyTo .readAsRun 2 (cmd 0x80 0 0 [1003]) State.reset =
      [0x00800A00, 0xFFFFFFFF, 0xFFFFFFFF, 0xFFFFFFFF, 0xFFFFFFFF, 0xFFFFFFFF, 0, 0, 0xFFFFFFFF, 0xFF010000, 0x00FFFFFF] := by
  decide +kernel
/-- "A nested notice fetch": the fetch of level 6 first, with mask 6, and 0 saved. -/
theorem test_nested_fetch :
    let q (i v : Nat) : Queued := { notice := .noNext i 0 0, level := v }
    let s := putLink 1 { gallery.link 1 with queue := [q 1 1, q 2 4, q 3 6] } gallery
    let l := (after (exec (.nextNotice 1 0x00000090) s) s).link 1
    l.queue = [q 1 1, q 2 4] ∧ l.mask = 6 ∧ l.stack = [0] := by decide +kernel
/-- A NOP in command position sends nothing (R184). -/
theorem test_nop : sends 1 (after (exec (.nop 1 0x00001200) gallery) gallery) = [0xFFFFFFFF] := by decide +kernel
theorem test_unknown : sends 1 (after (exec (.unknownCommand 1 0x00000006) gallery) gallery) = [0x00060001] := by decide +kernel
/-- R187: after two all-ones frames the flags, the role, the number queued and the mask go out. -/
theorem test_resync :
    let s := putLink 1 { gallery.link 1 with held := true, flags := 0x20, mask := 3 } gallery
    sends 1 (after (exec (.linkResync 1) s) s) = [0x03000120] := by decide +kernel
theorem test_not_permitted : replyTo .take 0 (cmd 0x22 0 25 []) gallery = [0x00220002] := by decide +kernel
theorem test_fire_now : replyTo .fireNow 1 (cmd 0x42 5 301 [0]) gallery = [0x00420100, 0] := by decide +kernel
theorem test_set_channel :
    replyTo .setChannel 1 (cmd 0x41 5 1 [0x00190AFF]) gallery = [0x00410200, 0x190A0101, 0] := by decide +kernel
theorem test_lamp_code : replyTo .lampOverride 1 (cmd 0x52 0 4 []) gallery = [0x00520004] := by decide +kernel

/-! ### Witnesses: states and operands that meet the hypotheses of the statements, clause by clause -/

/-- The command k is taken on link n in a state that meets P. -/
abbrev meets (n : Fin 4) (k : Command) (s : State) (P : State → Prop) : Prop :=
  (ready n k s).completes n k (lastFrame k) = true ∧ P (ready n k s)

/-- No more than the command is asked for. -/
abbrev any (_ : State) : Prop := True

/-- The part while RST is asserted. -/
def held : State := { State.reset with rst := true }

/-- The part with the reference PRESENT. -/
def locked : State := { State.reset with clock := { State.reset.clock with ref := .present } }

/-- The gallery without an armed entry. -/
def unarmed : State :=
  { gallery with
    store := { gallery.store with order := [item 20 .onAir 1500, item 22 .dropped 5, item 23 .done 9] },
    tkc := { gallery.tkc with armed := none } }

/-- The gallery with no entry armed and three READY. -/
def disarmed : State :=
  { gallery with
    store := { gallery.store with order := [item 20 .onAir 1500, item 21 .ready 750, item 22 .ready 100, item 23 .ready 100] },
    tkc := { gallery.tkc with armed := none } }

/-- An empty cue record for channel 5. -/
def cue5 : Cue := { anchor := .start, value := 25, station := none, channel := 5, action := .fire, argument := 301 }

/-- A running order in which entry 1 has one cue record, and entry 2 has twelve. -/
def cued : State :=
  withOrder [{ item 1 .ready 10 with cues := [cue5] }, { item 2 .ready 10 with cues := List.replicate 12 cue5 }] 0 0

theorem witness_StepRunsFrontCommand : State.reset.pending = [] := rfl
theorem witness_ExecKeepsTheQueue : State.reset.quiet ∧ ∃ t, exec .rstAssert State.reset = .next t := by
  refine ⟨?_, _, rfl⟩
  unfold State.quiet; decide +kernel
theorem witness_SystemReset :
    State.reset.rst = false ∧ held.rst = true ∧ held.asRun.ring.length ≤ 256 := by decide +kernel
theorem witness_FrameEdgeAdvancesTheClock :
    (State.reset.clock.sound ∧ State.reset.clock.ref = .lost) ∧ (locked.clock.sound ∧ locked.clock.ref = .present)
      ∧ State.reset.clock.period.framePeriod ≤ 2 * (State.reset.clock.sinceEdge + 6000) := by
  unfold Clock.sound; decide +kernel
/-- A tick at the second, a lone TIME unit and a lone REMAINING unit, each met and each not met. -/
theorem witness_FrameEdgeAdvancesTheClock_units :
    let next : Label := { hh := 0, mm := 0, ss := 1, ff := 0 }
    let at24 (c : Condition) : State := watching c .notify
      { gallery with clock := { gallery.clock with tod := 24, run := .running } }
    (∀ c ∈ [Condition.time next .full, .time next .hours, .time { next with hh := 1 } .hours, .remaining 499, .remaining 3],
        (at24 c).clock.sound ∧ (at24 c).quiet ∧ (at24 c).lone 4 ∧ ((at24 c).triggers.units[(4 : Fin 8)]).condition = c
        ∧ (at24 c).store.sound ∧ onAirSlotsSound (at24 c)
        ∧ (∀ x ∈ (at24 c).store.order, x.autoPost = false) ∧ (at24 c).clock.ref = .lost ∧ (at24 c).rst = false)
      ∧ (at24 .never).onlyLevel .clockTick ∧ labelOf .f25 (edgeTimeOfDay (at24 .never).clock) = next
      ∧ labelOf .f25 (at24 .never).clock.tod ≠ next := by
  unfold Clock.sound State.quiet State.lone State.sole State.onlyLevel Store.sound Entry.sound onAirSlotsSound; decide +kernel
theorem witness_FrameEdgeAdvancesTheClock_action : (watching .never .notify gallery).store.sound
    ∧ ((watching .never .notify gallery).triggers.units[(4 : Fin 8)]).actsElsewhere :=
  ⟨by unfold Store.sound Entry.sound; decide +kernel, by decide +kernel, fun _ h => by cases h⟩
theorem witness_EarlyPulseGivesNoEdge :
    2 * (State.reset.clock.sinceEdge + 5999) < State.reset.clock.period.framePeriod ∧ State.reset.clock.ref = .lost
      ∧ 2 * (locked.clock.sinceEdge + 5999) < locked.clock.period.framePeriod ∧ locked.clock.ref = .present := by
  decide +kernel
theorem witness_OnlyEdgesMoveTheFrameIndex :
    ∃ t, held.rst = true ∧ exec (.timebaseEdge { rdy := 0, order := [] }) held = .next t ∧ t.clock.frame ≠ held.clock.frame :=
  ⟨_, rfl, rfl, by decide +kernel⟩
theorem witness_OnlyEdgesMoveTheFrameIndex_edges : locked.clock.ref = .present ∧ gallery.clock.ref = .lost := by decide +kernel
theorem witness_OnlyPowerOnClearsTheFrameIndex :
    ∃ t, exec (.powerOn resetLines) gallery = .next t ∧ t.clock.frame ≠ gallery.clock.frame := ⟨_, rfl, by decide +kernel⟩
theorem witness_SetTime :
    meets 0 (cmd 0x02 0 0 [0x173B3B18]) State.reset any ∧ meets 1 (cmd 0x02 0 0 [0x18000000]) State.reset any := by
  decide +kernel
theorem witness_ReadRunAndStopClock :
    meets 3 (cmd 0x01 0 0 []) State.reset any ∧ meets 1 (cmd 0x03 0 0 []) State.reset any
      ∧ meets 1 (cmd 0x04 0 0 []) State.reset any := by decide +kernel
theorem witness_SetRate :
    let running : State := { State.reset with clock := { State.reset.clock with run := .running } }
    meets 0 (cmd 0x05 3 0 []) State.reset (fun _ => modeOfCode? 3 = none)
      ∧ meets 0 (cmd 0x05 2 0 []) running (fun s => modeOfCode? 2 = some .df2997 ∧ s.clock.run = .running)
      ∧ meets 0 (cmd 0x05 0 0 []) State.reset (fun s => s.clock.run = .stopped ∧ s.clock.runPending ≠ some .running
          ∧ modeOfCode? 0 = some s.clock.mode)
      ∧ meets 0 (cmd 0x05 2 0 []) State.reset (fun s => s.clock.run = .stopped ∧ s.clock.runPending ≠ some .running
          ∧ modeOfCode? 2 = some .df2997 ∧ .df2997 ≠ s.clock.mode) := by decide +kernel
theorem witness_WholeFrameLabels :
    Mode.f25 ≠ .df2997 ∧ 2159999 < Mode.f25.day ∧ (24 : Nat) - 1 < 24 ∧ (59 : Nat) < 60 ∧ 29 < Mode.f30.rate := by
  decide +kernel
theorem witness_DropFrameLabels :
    2589407 < 2589408 ∧ 1799 % 17982 < 1800 ∧ 1800 ≤ 1800 % 17982 ∧ 1800 ≤ 2589407 % 17982 := by decide +kernel
theorem witness_DropFrameCounts :
    let l : Label := { hh := 23, mm := 59, ss := 59, ff := 29 }
    let x : Label := { hh := 0, mm := 10, ss := 0, ff := 0 }
    (60 * x.hh + x.mm) % 10 = 0 ∧ (60 * l.hh + l.mm) % 10 ≠ 0
      ∧ l.hh < 24 ∧ l.mm < 60 ∧ l.ss < 60 ∧ l.ff < 30 ∧ labelMissing .df2997 l = false := by decide +kernel
theorem witness_StepKeepsTimeOfDayInRange : State.reset.clock.sound ∧ ∃ t, step State.reset = .next t :=
  ⟨by unfold Clock.sound; decide +kernel, _, rfl⟩

/-! Chapter 2. -/

/-- Every entry id is in use. -/
def full : State := withOrder ((List.range 240).map fun i => item (i + 1) .dropped 1) 0 0

theorem witness_NewEntry :
    meets 0 (cmd 0x10 99 0 [7, 5]) gallery (fun s => s.names 99 = false)
      ∧ meets 0 (cmd 0x10 20 4 [7, 5]) gallery (fun s => s.names 20 = true ∧ kindOfCode? 4 = none)
      ∧ meets 0 (cmd 0x10 0 3 [7, 5]) gallery (fun s => kindOfCode? 3 = some .brk ∧ s.store.lowestFree? = some 1)
      ∧ meets 0 (cmd 0x10 240 0 [7, 5]) full (fun s => s.names 240 = true ∧ s.store.lowestFree? = none) := by decide +kernel
theorem witness_DeleteEntry :
    meets 0 (cmd 0x11 0 0 []) gallery (fun s => (s.entry? 0).isNone = true)
      ∧ meets 0 (cmd 0x11 20 0 []) gallery (fun s => (s.entry? 20).any (fun e => e.state == .onAir) = true)
      ∧ meets 0 (cmd 0x11 21 0 []) gallery (fun s => (s.entry? 21).any (fun e => e.state != .onAir) = true) := by
  decide +kernel
theorem witness_MoveEntry :
    meets 0 (cmd 0x12 99 20 []) gallery (fun s => s.names 99 = false)
      ∧ meets 0 (cmd 0x12 21 99 []) gallery (fun s => s.names 99 = false)
      ∧ meets 0 (cmd 0x12 21 21 []) gallery (fun s => s.names 21 = true)
      ∧ meets 0 (cmd 0x12 20 0 []) gallery (fun s => s.names 20 = true ∧ (s.store.order.map (·.id)).head? = some 20)
      ∧ meets 0 (cmd 0x12 23 0 []) gallery (fun s => s.names 23 = true ∧ (s.store.order.map (·.id)).head? ≠ some 23)
      ∧ ∀ s ∈ [gallery, disarmed], meets 0 (cmd 0x12 20 22 []) s (fun s => s.pgmId = 20 ∧ s.names 22 = true) := by
  decide +kernel
/-- R53: a move of the programme entry leaves an empty armed slot empty, and any other move lets auto-arm fill it (R51). -/
theorem test_move_of_programme_entry :
    ([0x00161412, 0x00001612].map fun f => ((after (exec (.moveEntry 0 f) disarmed) disarmed).tkc.armed.map fun a => a.id)) =
      [none, some 21] := by decide +kernel
theorem witness_WriteField :
    (∀ op : Fin 9, meets 0 (cmd 0x13 20 (w16 op.val) [1]) gallery (fun s => (s.entry? 20).any (fun e => e.state == .onAir) = true))
      ∧ (∀ op : Fin 8, meets 0 (cmd 0x13 21 (w16 op.val) [0xFFFFFFFE]) gallery (fun s => (s.entry? 21).isSome = true))
      ∧ meets 0 (cmd 0x13 99 0 [1]) gallery (fun s => (s.entry? 99).isNone = true)
      ∧ meets 0 (cmd 0x13 21 4 [0x173B3B18]) gallery (fun s => (s.entry? 21).isSome = true
          ∧ (checkLabel s.clock.mode 0x173B3B18).isSome = true)
      ∧ meets 0 (cmd 0x13 21 4 [0x18000000]) gallery (fun s => (s.entry? 21).isSome = true
          ∧ (checkLabel s.clock.mode 0x18000000).isNone = true) := by decide +kernel
theorem witness_WriteField_absent :
    let s := putLink 0 { gallery.link 0 with
      held := true, receiver := .data (cmd 0x13 21 4 []) 1 } gallery
    s.completes 0 (cmd 0x13 21 4 [BitVec.allOnes 32]) 0 = true := by decide +kernel
theorem witness_NewTargetRecomputesEndSlots :
    gallery.tkc.pgm = some { id := 20, target := 1500 } ∧ gallery.triggersOff ∧ gallery.triggers.held = [] ∧ gallery.rst = false
      ∧ gallery.onlyLevel .countdown := by
  unfold State.triggersOff State.onlyLevel; decide +kernel
/-- The gallery's live remaining time is 500: the target 2,000 makes it 1,000, and 3 is another value. -/
theorem witness_NewTargetRecomputesEndSlots_units :
    ∀ m ∈ [1000, 3], (watching (.remaining m) .notify gallery).lone 4
      ∧ ((watching (.remaining m) .notify gallery).triggers.units[(4 : Fin 8)]).condition = .remaining m
      ∧ (watching (.remaining m) .notify gallery).triggers.held = [] := by
  unfold State.lone State.sole; decide +kernel
theorem witness_StoreReads :
    meets 0 (cmd 0x14 0 0 []) cued (fun s => (s.entry? 0).isNone = true)
      ∧ meets 1 (cmd 0x14 2 16 []) cued (fun s => (s.entry? 2).isSome = true)
      ∧ meets 2 (cmd 0x14 2 15 []) cued (fun s => (s.entry? 2).isSome = true)
      ∧ meets 3 (cmd 0x19 3 0 []) cued (fun s => (s.entry? 3).isNone = true)
      ∧ meets 3 (cmd 0x19 2 12 []) cued (fun s => (s.entry? 2).any (fun e => e.cues.length == 12) = true)
      ∧ meets 3 (cmd 0x19 2 11 []) cued (fun s => (s.entry? 2).any (fun e => (e.cues[11]?).isSome) = true)
      ∧ meets 0 (cmd 0x1A 0 240 []) cued any ∧ meets 0 (cmd 0x1A 0 239 []) cued any := by decide +kernel
theorem witness_ChangeFlags :
    meets 0 (cmd 0x15 0 1 []) gallery (fun s => (s.entry? 0).isNone = true)
      ∧ meets 1 (cmd 0x16 21 16 []) gallery (fun s => (s.entry? 21).isSome = true)
      ∧ meets 1 (cmd 0x16 21 15 []) gallery (fun s => (s.entry? 21).any (fun e => !e.float) = true)
      ∧ meets 0 (cmd 0x15 21 1 []) gallery (fun s => (s.entry? 21).any (fun e => !e.float && e.state == .armed) = true
          ∧ s.armedId = 21) := by decide +kernel
theorem witness_ChangeFlags_sound : gallery.store.sound ∧ armedSlotSound gallery := by
  unfold Store.sound Entry.sound armedSlotSound; decide +kernel
theorem witness_AddAndRemoveCue :
    let f0 : Word := 0x00050000
    meets 0 (cmd 0x17 3 0 [f0, 25, 301]) cued (fun s => (s.entry? 3).isNone = true)
      ∧ meets 0 (cmd 0x17 1 2 [f0, 25, 301]) cued (fun s => (s.entry? 1).any (fun e => decide (e.cues.length < 2)) = true)
      ∧ meets 0 (cmd 0x17 1 1 [f0, 25, 301]) cued (fun s => s.store.cuesUsed < 512
          ∧ (s.entry? 1).any (fun e => e.cues.length == 1) = true ∧ cueOfFrames? (cmd 0x17 1 1 [f0, 25, 301]) = some cue5)
      ∧ meets 0 (cmd 0x17 2 0xFFFF [f0, 25, 301]) cued (fun s => (s.entry? 2).any (fun e => e.cues.length == 12) = true
          ∧ cueOfFrames? (cmd 0x17 2 0xFFFF [f0, 25, 301]) = some cue5)
      ∧ meets 0 (cmd 0x17 1 0 [0x00050003, 25, 301]) cued (fun _ =>
          cueOfFrames? (cmd 0x17 1 0 [0x00050003, 25, 301]) = none)
      ∧ meets 0 (cmd 0x18 1 1 []) cued (fun s => (s.entry? 1).any (fun e => e.cues.length == 1) = true)
      ∧ meets 0 (cmd 0x18 1 0 []) cued (fun s => (s.entry? 1).any (fun e => e.cues[0]? == some cue5) = true) := by
  decide +kernel
theorem witness_CueChecks :
    cueOfFrames? (cmd 0x17 1 0 [0x00050000, 25, 301]) = some cue5
      ∧ (cueOfFrames? (cmd 0x17 1 0 [0x00020102, 1048576, 11])).map (fun c => (c.value, c.station)) = some (1048575, some .b) := by
  decide +kernel
theorem witness_ClearRundown :
    meets 0 (cmd 0x1B 0 0 []) gallery (fun s => ∃ e ∈ s.store.order, e.state = .onAir)
      ∧ meets 0 (cmd 0x1B 0 0 []) safe (fun s => s.tkc.engine = .safe)
      ∧ meets 0 (cmd 0x1B 0 0 []) cued (fun s => (∀ e ∈ s.store.order, e.state ≠ .onAir) ∧ s.tkc.engine = .normal) := by
  decide +kernel
theorem witness_ReportDuration :
    meets 2 (cmd 0x1C 0 0 [5]) gallery (fun s => (s.entry? 0).isNone = true)
      ∧ meets 2 (cmd 0x1C 23 0 [5]) unarmed (fun s => (s.entry? 23).any (fun e => e.state == .done) = true)
      ∧ meets 2 (cmd 0x1C 20 0 [0xFFFFFFFE]) gallery (fun s => (s.entry? 20).any (fun e => e.state == .onAir) = true
          ∧ s.pgmId = 20) := by decide +kernel
theorem witness_ReportDuration_absent :
    let s := putLink 2 { gallery.link 2 with held := true, receiver := .data (cmd 0x1C 20 0 []) 1 } gallery
    s.completes 2 (cmd 0x1C 20 0 [BitVec.allOnes 32]) 0 = true ∧ (s.entry? 20).isSome = true := by decide +kernel
theorem gallery_store : gallery.store.sound := by unfold Store.sound Entry.sound; decide +kernel
theorem gallery_armed : armedSlotSound gallery := by unfold armedSlotSound; decide +kernel
theorem gallery_onAir : onAirSlotsSound gallery := by unfold onAirSlotsSound; decide +kernel
theorem witness_StepKeepsTheStoreSound : gallery.store.sound ∧ ∃ t, step gallery = .next t := ⟨gallery_store, _, rfl⟩

/-! Chapters 3 and 9. -/

/-- The published set holds one record, of entry 22, a closed segment and the open one. -/
def timed : State :=
  { gallery with timing := { gallery.timing with published := { gallery.timing.published with
      records := [{ id := 22, segment := 0, isPost := false, effective := 100, margin := 10, trim := 10, advised := 90,
                    start := 500, day := 0 }],
      segments := [
        { number := 0, firstMember := 22, members := 1, opener := 20, openDemand := 5, start := 0, startDay := 0,
          closed := some { post := 23, label := 600, distance := 600, demand := 105, slack := 495, fill := 495, need := 0,
                           margin := 10, trimTotal := 0, residual := 0, postStart := 600, postDay := 0 } },
        { number := 1, firstMember := 0, members := 0, opener := 23, openDemand := 0, start := 600, startDay := 0,
          closed := none }] } } }

/-- Station A holds its take interlock, and the armed entry 21 names it. -/
def locking : State :=
  let s := putStation .a { gallery.station .a with interlock := true } gallery
  { s with store := { s.store with order := s.store.order.map fun e => if e.id = 21 then { e with station := some .a } else e } }

theorem safe_onAir : onAirSlotsSound safe := by unfold onAirSlotsSound; decide +kernel
theorem witness_ArmAndDisarm :
    gallery.store.sound ∧ armedSlotSound gallery
      ∧ meets 1 (cmd 0x20 0 0 []) gallery (fun s => (s.entry? 0).isNone = true)
      ∧ meets 1 (cmd 0x20 21 0 []) gallery (fun s => (s.entry? 21).any (fun e => e.state != .ready) = true)
      ∧ meets 1 (cmd 0x20 22 0 []) gallery (fun s => (s.entry? 22).any (fun e => e.state == .ready && !e.float) = true)
      ∧ meets 1 (cmd 0x21 0 0 []) gallery any := ⟨gallery_store, gallery_armed, by decide +kernel⟩
theorem witness_TakeRefusals :
    meets 1 (cmd 0x22 0 0 []) safe (fun s => s.tkc.engine = .safe)
      ∧ meets 1 (cmd 0x23 0 0 []) unarmed (fun s => s.tkc.armed = none)
      ∧ meets 1 (cmd 0x22 0 0 []) locking (fun s => s.tkc.engine = .normal ∧ s.tkc.armed.isSome = true
          ∧ (s.entry? 21).any (fun e => e.station == some .a) = true ∧ (s.station .a).interlock = true
          ∧ (s.station .a).ready = false) := by decide +kernel
theorem witness_TakePutsTheArmedEntryOnAir :
    meets 1 (cmd 0x22 0 250 []) gallery (fun s => s.tkc.engine = .normal ∧ s.tkc.armed = some { id := 21, tag := .manual }
        ∧ (s.entry? 21).any (fun e => !s.interlockClosed e) = true ∧ s.quiet)
      ∧ meets 1 (cmd 0x23 0 0 []) locking (fun s => s.tkc.engine = .normal ∧ (s.entry? 21).isSome = true)
      ∧ gallery.triggersOff ∧ gallery.store.sound ∧ armedSlotSound gallery ∧ onAirSlotsSound gallery := by
  refine ⟨by unfold State.quiet; decide +kernel, by decide +kernel, ?_, gallery_store, gallery_armed, gallery_onAir⟩
  unfold State.triggersOff; decide +kernel
/-- Nothing is on air, and the armed entry 21 brings timed and MARK cues. -/
def opening : State :=
  let s := withOrder [{ item 21 .armed 750 with cues := [cue5, { cue5 with anchor := .mark, station := some .a }] }] 81000 0
  { s with tkc := { s.tkc with armed := some { id := 21, tag := .manual } } }
theorem witness_TakePutsTheArmedEntryOnAir_load :
    meets 1 (cmd 0x22 0 0 []) opening (fun s => s.tkc.pgm = none ∧ s.quiet ∧ s.triggersOff ∧ s.store.sound ∧ armedSlotSound s
      ∧ onAirSlotsSound s ∧ ∀ st : Fin 2, (s.stations[st]).marks.length ≤ 16) := by
  unfold State.quiet State.triggersOff Store.sound Entry.sound armedSlotSound onAirSlotsSound; decide +kernel
theorem witness_TakePutsTheArmedEntryOnAir_units :
    ∀ c ∈ [Condition.entryOnAir 21, .remaining 750], meets 1 (cmd 0x22 0 0 []) (watching c .notify opening)
      (fun s => s.lone 4 ∧ s.quiet ∧ (s.triggers.units[(4 : Fin 8)]).condition = c ∧ s.store.sound ∧ armedSlotSound s
        ∧ onAirSlotsSound s) := by
  unfold State.lone State.sole State.quiet Store.sound Entry.sound armedSlotSound onAirSlotsSound; decide +kernel
theorem witness_TransitionComplete :
    gallery.rst = false ∧ gallery.tkc.out = none ∧ gallery.sched.atEdge = false ∧ crossing.sched.atEdge = false
      ∧ crossing.tkc.out = some { id := 22, target := 100, count := 1, due := true }
      ∧ (crossing.entry? 22).any (fun e => e.takeIndex == some 79000) = true ∧ crossing.pgmId = 20
      ∧ (∀ st : Fin 2, (crossing.stations[st]).marks.length ≤ 16) ∧ crossing.triggersOff ∧ crossing.store.sound := by
  unfold State.triggersOff Store.sound Entry.sound; decide +kernel
/-- The gallery with a transition that has some frames to run. -/
def crossingIn (count : Nat) (due : Bool := false) : State :=
  { crossing with tkc := { crossing.tkc with out := some { id := 22, target := 100, count := count, due := due } } }
theorem witness_TransitionComplete_edges :
    ∀ x ∈ [(1, true), (1, false), (2, false), (250, false)], let s := crossingIn x.1 x.2
      s.givesEdge { rdy := 0, order := [.transition] } (.timebaseEdge { rdy := 0, order := [.transition] }) = true
      ∧ s.rst = false ∧ s.quiet ∧ s.triggersOff ∧ (∀ y ∈ s.store.order, y.autoPost = false)
      ∧ s.tkc.out = some { id := 22, target := 100, count := x.1, due := x.2 } ∧ s.pgmId = 20 := by
  unfold State.quiet State.triggersOff; decide +kernel
/-- R48, R60: each edge takes one from the count, and the one that finds it 1 makes the completion due. -/
theorem test_transition_counts :
    ([25, 1].map fun count =>
      let t := openEdge 0 (advanceClock (crossingIn count))
      (t.tkc.out.map fun o => o.count, t.transitionDue)) = [(some 24, false), (some 1, true)] := by decide +kernel
theorem witness_TransitionComplete_units :
    ∀ id ∈ [22, 21], (watching (.entryDone id) .notify crossing).lone 4
      ∧ (watching (.entryDone id) .notify crossing).triggers.held = []
      ∧ ((watching (.entryDone id) .notify crossing).triggers.units[(4 : Fin 8)]).condition = .entryDone id := by
  unfold State.lone State.sole; decide +kernel
theorem witness_DropAndRestore :
    gallery.store.sound ∧ meets 1 (cmd 0x24 0 0 []) gallery (fun s => (s.entry? 0).isNone = true)
      ∧ meets 1 (cmd 0x24 20 0 []) gallery (fun s => (s.entry? 20).any (fun e => e.state == .onAir) = true)
      ∧ meets 1 (cmd 0x24 21 0 []) gallery (fun s => (s.entry? 21).any (fun e => e.state == .armed) = true)
      ∧ meets 1 (cmd 0x25 0 0 []) gallery (fun s => (s.entry? 0).isNone = true)
      ∧ meets 1 (cmd 0x25 22 0 []) gallery (fun s => (s.entry? 22).any (fun e => e.state == .ready) = true)
      ∧ meets 1 (cmd 0x25 22 0 []) unarmed (fun s => (s.entry? 22).any (fun e => e.state == .dropped) = true) :=
  ⟨gallery_store, by decide +kernel⟩
theorem witness_DropAndRestore_store : unarmed.store.sound := by unfold Store.sound Entry.sound; decide +kernel
theorem witness_FallbackResumeAndStatus :
    meets 1 (cmd 0x26 99 0 []) gallery (fun s => s.names 99 = false) ∧ meets 1 (cmd 0x26 0 0 []) gallery any
      ∧ meets 1 (cmd 0x26 23 0 []) gallery (fun s => s.names 23 = true)
      ∧ meets 1 (cmd 0x27 0 0 []) gallery (fun s => s.tkc.engine = .normal)
      ∧ meets 1 (cmd 0x27 0 0 []) safe (fun s => s.tkc.engine = .safe) ∧ meets 0 (cmd 0x28 0 0 []) gallery any := by
  decide +kernel
theorem witness_RepeatedAlert : safe.rst = false ∧ safe.tkc.engine = .safe := by decide +kernel
theorem witness_AirAlert :
    gallery.rst = false ∧ gallery.tkc.engine = .normal ∧ gallery.tkc.fallback = none
      ∧ gallery.store.sound ∧ armedSlotSound gallery ∧ onAirSlotsSound gallery := by
  refine ⟨rfl, rfl, rfl, gallery_store, gallery_armed, gallery_onAir⟩
/-- The fallback entry 22 is READY with a record in the set, or DROPPED, or of an id taken again since. -/
theorem witness_AirAlert_fallback :
    let s : State := { timed with tkc := { timed.tkc with fallback := some 22 } }
    let created : State := { s with timing := { s.timing with created := [22] } }
    (∀ id ∈ s.tkc.fallback, s.names id = true) ∧ s.pgmId ≠ 22
      ∧ (s.entry? 22).any (fun e => e.state == .ready && !e.float) = true ∧ 22 ∉ s.timing.created
      ∧ (s.timing.published.records.find? fun r => r.id == 22).isSome = true ∧ 22 ∈ created.timing.created
      ∧ (unarmed.entry? 22).any (fun e => e.state == .dropped) = true ∧ unarmed.pgmId ≠ 22 := by decide +kernel
theorem witness_StepKeepsTheSlotsSound :
    gallery.store.sound ∧ armedSlotSound gallery ∧ onAirSlotsSound gallery ∧ ∃ t, step gallery = .next t :=
  ⟨gallery_store, gallery_armed, gallery_onAir, _, rfl⟩
theorem witness_StepKeepsTheSlotsSound_transition :
    (∀ x ∈ [(1, true), (1, false), (250, false)], transitionSound (crossingIn x.1 x.2)) ∧ ∃ t, step crossing = .next t :=
  ⟨by unfold transitionSound; decide +kernel, _, rfl⟩
theorem witness_SafeMakesNoTake :
    safe.tkc.engine = .safe ∧ safe.tkc.requests = [] ∧ onAirSlotsSound safe ∧ ∃ t, exec .panicFall safe = .next t :=
  ⟨rfl, rfl, safe_onAir, _, rfl⟩

/-- "A post take that drops two items", at the edge that reaches 11:00:00:00. -/
def postEdge : State :=
  let post : Entry := { item 14 .ready 3000 with kind := .brk, hardPost := some 990000, autoPost := true }
  let s := withOrder [ item 10 .done 1, { item 11 .onAir 2500 with takeIndex := some 60000, takeTime := some 987500 },
    item 12 .armed 1, item 13 .ready 1, post, item 15 .ready 1 ] 62500 990000
  { s with
    tkc := { s.tkc with armed := some { id := 12, tag := .auto }, pgm := some { id := 11, target := 2500 }, lastLength := 10 },
    edge := { old := 989999, new := 990000, kind := .counted }, owed := [.posts] }
theorem witness_SafeMakesNoTake_posts :
    postEdge.store.sound ∧ armedSlotSound postEdge ∧ onAirSlotsSound postEdge ∧ postEdge.triggersOff ∧ postEdge.tkc.engine = .normal
      ∧ ((standingAfter (postEdge.tkc.pgm.map fun p => p.id) postEdge.store.order).find? fun e =>
          e.hardPost.isSome && e.autoPost).any (fun e => e.id == 14 && e.hardPost == some postEdge.edge.new) = true
      ∧ gallery.store.order.all (fun e => !e.autoPost) = true := by
  unfold Store.sound Entry.sound armedSlotSound onAirSlotsSound State.triggersOff; decide +kernel
/-- The running clock a frame before the post, with the reference LOST: the edge that reaches it. -/
theorem witness_SafeMakesNoTake_edge :
    let s : State := { postEdge with clock := { postEdge.clock with tod := 989999, run := .running }, owed := [] }
    s.rst = false ∧ s.clock.sound ∧ s.clock.ref = .lost ∧ s.tkc.engine = .normal ∧ s.tkc.out = none ∧ s.quiet
      ∧ edgeTimeOfDay s.clock = 990000 ∧ s.clock.setPending = none := by
  unfold Clock.sound State.quiet; decide +kernel
theorem test_post_take :
    let t := performItem .posts postEdge
    t.store.order.map (·.state) = [.done, .onAir, .dropped, .dropped, .onAir, .armed]
      ∧ t.tkc.out.map (fun o => (o.id, o.target, o.count)) = some (11, 2500, 10)
      ∧ t.tkc.armed = some { id := 15, tag := .auto } := by decide +kernel
theorem test_post_records :
    (performItem .posts postEdge).asRun.ring.map (fun r => (r.kind, r.entry, r.value)) =
      [(.postSkip, some 12, 0), (.postSkip, some 13, 0), (.take, some 14, 0), (.postReached, some 14, 2)] := by
  decide +kernel

/-! Chapter 4: "a heavy segment before a break". -/

def heavyMembers : List Entry :=
  [ { item 2 .armed 1500 with kind := .clip, reported := some 1520 }, { item 3 .ready 1500 with minimum := some 750 },
    { item 4 .ready 3000 with kind := .live, minimum := some 1500 }, item 5 .ready 750 ]
def heavyPost : Entry := { item 6 .ready 3000 with kind := .brk, hardPost := some 993000 }
def heavyOpening : Opening := { start := 987000, offset := 0, demand := 1250, opener := 0 }

/-- The case's figures: distance, demand, slack, need, margin, trim total and residual. -/
theorem test_heavy_figures :
    let f := closedFigures 2160000 987000 heavyOpening heavyMembers heavyPost
    (f.distance, f.slack) = (6000, -2020)
      ∧ [f.demand, f.fill, f.need, f.margin, f.trimTotal, f.residual, f.postStart] = [8020, 0, 2020, 2250, 2020, 0, 993000] := by decide +kernel
theorem test_heavy_trims : trims 2020 heavyMembers = [0, 673, 1347, 0] := by decide +kernel
/-- "Across midnight, with a late post": the trims of X, Y and Z, and the distance to a post a minute past. -/
theorem test_midnight_trims :
    trims 300 [{ item 1 .ready 2000 with minimum := some 1000 }, { item 2 .ready 1000 with reported := some 1250 },
      { item 3 .ready 1500 with minimum := some 1200 }] = [230, 0, 70] := by decide +kernel
/-- The projected starts, as the case's table gives them. -/
theorem test_heavy_starts :
    (computeSet 1 { order := { item 1 .onAir 2250 with takeIndex := some 40000 } :: heavyMembers ++ [heavyPost],
                    pgm := some { id := 1, target := 2250 }, source := 41000, tod := 987000, mode := .f25,
                    tookDirty := false, created := [] }).records.map (fun r => (r.id, r.start, r.advised)) =
      [(2, 988250, 1520), (3, 989770, 827), (4, 990597, 1653), (5, 992250, 750), (6, 993000, 3000)] := by decide +kernel
theorem test_late_post_distance : halfDay 2160000 2155500 2154000 = -1500 ∧ halfDay 2160000 2155500 750 = 5250 := by
  decide +kernel
/-- The view of a pass over the gallery. -/
def galleryView : View :=
  { order := gallery.store.order, pgm := gallery.tkc.pgm, source := 81000, tod := 0, mode := .f25, tookDirty := true, created := [] }

/-- The gallery with the pass in flight. -/
def viewing : State := { gallery with timing := { gallery.timing with view := some galleryView } }
theorem witness_TimingPublish :
    State.reset.rst = false ∧ State.reset.timing.view = none ∧ viewing.rst = false ∧ viewing.timing.view = some galleryView := by
  decide +kernel
/-- An edge's pass takes its view of the gallery, in which the id 22 has been taken again since the published set's view. -/
theorem witness_TimingPublish_view :
    let s : State := { gallery with timing := { gallery.timing with
      created := [22], baseline := { gallery.timing.baseline with starts := [(21, 5), (22, 755)] } } }
    s.rst = false ∧ s.clock.ref = .lost ∧ s.quiet ∧ s.triggersOff ∧ s.tkc.out = none
      ∧ (∀ x ∈ s.store.order, x.autoPost = false) ∧ s.timing.view = none ∧ 22 ∈ s.timing.created := by
  unfold State.quiet State.triggersOff; decide +kernel
/-- R24, R93: an entry that took a freed id is one entry gone and one come, though it starts where the other did. -/
theorem test_reused_id_moves :
    let b : Baseline := { starts := [(21, 5), (22, 755)], slacks := [], mode := .f25 }
    movedCount 250 2160000 b b = 0 ∧ movedCount 250 2160000 (b.forget [22]) b = 2 := by decide +kernel
/-- A first set is a change, since the baseline holds nothing; within the hold-off of a notice it waits; and a set with the
baseline's starts is none. -/
theorem witness_TimingPublish_notice :
    let first := after (exec .timingPublish viewing) viewing
    let again : State := { first with timing := { first.timing with view := some galleryView } }
    viewing.timing.baseline.starts = [] ∧ first.timing.published.records.map (·.id) = [21, 22, 23]
      ∧ viewing.timing.lastNotice = none ∧ galleryView.tod < galleryView.mode.day ∧ again.rst = false
      ∧ again.timing.baseline.starts = first.timing.published.records.map (fun r => (r.id, r.start))
      ∧ again.timing.suppressed = false ∧ ((81000 : Word) - 80999).toNat < 250 := by decide +kernel
theorem witness_SegmentFigures :
    2250 ≤ availableMargin heavyMembers ∧ heavyPost.hardPost = some 993000 ∧ 993000 < 2160000
      ∧ heavyOpening.start < 2160000 ∧ 2160000 % 2 = 0 := by decide +kernel

/-- R28, R90: a new entry takes the freed id 1 and reads ABSENT, whatever the set holds of the entry that had it. -/
theorem test_reused_id_is_absent :
    let old : State := { State.reset with timing := { State.reset.timing with published := { timed.timing.published with
      records := timed.timing.published.records.map fun r => { r with id := 1 } } } }
    let s := after (exec (.newEntry 0 500) (ready 0 (cmd 0x10 0 0 [7, 500]) old)) old
    s.names 1 = true ∧ (replyTo .readTiming 1 (cmd 0x30 1 0 []) s).getD 9 0 = 0xFFFFFF01 := by decide +kernel
/-- R173: a fallback entry that is counted is cut to with its advised duration, one that is DROPPED with its effective one. -/
theorem test_fallback_target :
    let s : State := { timed with tkc := { timed.tkc with fallback := some 22 } }
    let gone := after (exec (.drop 1 0x00001624) s) s
    ([s, gone].map fun x => (after (exec .panicFall x) x).tkc.pgm.map fun p => (p.id, p.target)) =
      [some (22, 90), some (22, 100)] := by decide +kernel
theorem witness_TimingCommands :
    meets 0 (cmd 0x30 0 0 []) timed (fun s => (s.entry? 0).isNone = true)
      ∧ meets 3 (cmd 0x30 21 0 []) timed (fun s => (s.entry? 21).isSome = true
          ∧ ∀ r ∈ s.timing.published.records, r.id ≠ 21)
      ∧ meets 3 (cmd 0x30 22 0 []) timed (fun s => (s.entry? 22).isSome = true
          ∧ (s.timing.published.records.find? fun r => r.id == 22).isSome = true)
      ∧ meets 3 (cmd 0x30 22 0 []) { timed with timing := { timed.timing with created := [22] } } (fun s =>
          (s.entry? 22).isSome = true ∧ 22 ∈ s.timing.created)
      ∧ meets 2 (cmd 0x31 2 0 []) timed (fun s => s.timing.published.segments.length ≤ 2)
      ∧ meets 2 (cmd 0x31 1 0 []) timed (fun s => (s.timing.published.segments[1]?).any (fun g => g.closed == none) = true)
      ∧ meets 2 (cmd 0x31 0 0 []) timed (fun s => (s.timing.published.segments[0]?).any (fun g => g.closed != none) = true)
      ∧ meets 1 (cmd 0x32 0 0xFFFA []) timed any := by decide +kernel

/-! Chapter 5. -/

/-- A request in flight of a trigger unit. -/
def flight : InFlight :=
  { req := { origin := .trigger 4, action := .fire, argument := 3, entry := none, story := none, cueIndex := none, due := none },
    due := 80995, mode := .pulse, width := 1, holdLimit := 0, ready := .pin, firstCheck := 81000, held := 0, pulseLeft := 0 }

/-- The gallery with channel 5 in a state, with the request in flight. -/
def busy (x : ChannelState) (fl : InFlight) : State :=
  putChannel 5 { gallery.channel 5 with state := x, inFlight := some fl } gallery

/-- A slot of channel 5 that is to be released at the present edge. -/
def slot5 : Slot :=
  { entry := 20, cueIndex := 0, story := 0, channel := 5, action := .fire, argument := 301, anchor := .start, value := 25,
    takeIndex := 80975, due := 81010, preRoll := 10, release := 81000, released := false, loadOrder := 0, ripe := .due }
theorem witness_ChannelSettingsAndReads :
    meets 1 (cmd 0x41 16 0 [0]) gallery any ∧ meets 1 (cmd 0x41 15 2 [0]) gallery any
      ∧ meets 2 (cmd 0x41 15 0xFF [0xFFFFFFFE]) gallery any ∧ meets 2 (cmd 0x41 0 1 [0x01FAFA0F]) gallery any
      ∧ meets 0 (cmd 0x45 16 0 []) gallery any ∧ meets 0 (cmd 0x45 15 0 []) gallery any
      ∧ meets 0 (cmd 0x40 32 0 []) gallery any ∧ meets 0 (cmd 0x40 31 0 []) gallery any := by decide +kernel
theorem witness_ChannelSettingsAndReads_slot :
    meets 0 (cmd 0x40 31 0 []) (putSlot 31 (some slot5) gallery) (fun s => s.sched.slots[(31 : Fin 32)] = some slot5) := by
  decide +kernel
theorem witness_FireNow :
    meets 1 (cmd 0x42 16 0 [0]) gallery any ∧ meets 1 (cmd 0x42 15 0 [2]) gallery any
      ∧ meets 1 (cmd 0x42 5 0 [0]) gallery (fun s => (s.channel 5).waiting = none ∧ (s.channel 5).state = .idle)
      ∧ meets 1 (cmd 0x42 5 0 [1]) gallery (fun s => (s.channel 5).waiting = none ∧ (s.channel 5).state = .idle)
      ∧ meets 1 (cmd 0x42 5 0 [1]) (busy .hold flight) (fun s => (s.channel 5).state = .hold) := by decide +kernel
theorem witness_StopChannel :
    meets 1 (cmd 0x43 16 0 []) gallery any ∧ meets 1 (cmd 0x43 5 0 []) (busy .cueing flight) any := by decide +kernel

/-- The programme entry is a clip on channel 5 that advances of itself. -/
def clip (x : EngineState) (armed : Option Armed) : State :=
  { gallery with
    store := { gallery.store with order := gallery.store.order.map fun e =>
      if e.id = 20 then { e with kind := .clip, autoAdvance := true, clipChannel := some 5 } else e },
    tkc := { gallery.tkc with engine := x, armed := armed } }

/-- The clip applies to the CLIP END on channel 5. -/
def applies5 (s : State) : Bool :=
  s.pgmEntry?.any fun e => e.kind == .clip && e.autoAdvance && e.clipChannel == some 5

theorem witness_ClipEnd :
    meets 2 (cmd 0x44 16 0 []) gallery any
      ∧ meets 2 (cmd 0x44 15 0 []) gallery (fun s => s.pgmEntry?.any (fun e => e.kind != .clip) = true ∧ s.quiet)
      ∧ meets 2 (cmd 0x44 5 0 []) (clip .normal none) (fun s => applies5 s = true ∧ s.tkc.engine = .normal
          ∧ s.tkc.armed = none ∧ s.quiet)
      ∧ meets 2 (cmd 0x44 5 0 []) (clip .safe none) (fun s => applies5 s = true ∧ s.tkc.engine = .safe ∧ s.quiet)
      ∧ meets 2 (cmd 0x44 5 0 []) (clip .normal gallery.tkc.armed) (fun s => applies5 s = true ∧ s.tkc.engine = .normal
          ∧ s.tkc.armed = some { id := 21, tag := .manual }) := by
  unfold State.quiet; decide +kernel

theorem witness_ScheduleRelease :
    gallery.rst = false ∧ (∀ i : Fin 32, gallery.sched.slots[i] = none)
      ∧ slot5.ripeFor 5 false = true ∧ (putSlot 3 (some slot5) gallery).sched.slots[(3 : Fin 32)] = some slot5 := by
  decide +kernel
/-- An edge at which slot 3 is to be released, and one, two frames earlier, at which it is not. -/
theorem witness_ScheduleRelease_edge :
    let x : Slot := { slot5 with ripe := .no }
    let early : State := { gallery with clock := { gallery.clock with frame := 80998, ref := .present } }
    ∀ s ∈ [putSlot 3 (some x) gallery, putSlot 3 (some x) early],
      s.rst = false ∧ s.quiet ∧ s.triggersOff ∧ s.tkc.out = none ∧ (∀ y ∈ s.store.order, y.autoPost = false)
        ∧ (∀ c : Fin 16, (s.channel c).inFlight = none ∧ (s.channel c).waiting = none)
        ∧ s.sched.slots[(3 : Fin 32)] = some x ∧ x.released = false := by
  unfold State.quiet State.triggersOff; decide +kernel
theorem witness_ChannelEvents :
    ((busy .cueing flight).channel 5).inFlight = some flight ∧ (busy .cueing flight).rst = false
      ∧ ((busy .cueing flight).channel 5).state = .cueing ∧ atOrBefore flight.firstCheck (busy .cueing flight).clock.frame = true
      ∧ ¬(flight.ready = .always ∨ ((busy .cueing flight).channel 5).rdy = true)
      ∧ ((busy .hold flight).channel 5).state = .hold ∧ ((busy .hold flight).channel 5).sampled = false
      ∧ flight.holdLimit ≤ flight.held + 1
      ∧ ((busy .fired flight).channel 5).state = .fired ∧ flight.pulseLeft = 0
      ∧ ((busy .fired flight).channel 5).waiting = none ∧ flight.req.origin = .trigger 4 := by decide +kernel
/-- The end of a pulse with a request waiting: FIRE or STOP. -/
def pulseThen (a : ChanAction) : State :=
  let s := busy .fired flight
  putChannel 5 { s.channel 5 with waiting := some { flight.req with action := a } } s
theorem witness_ChannelEvents_waiting :
    ∀ a ∈ [ChanAction.fire, .stop], (pulseThen a).rst = false ∧ ((pulseThen a).channel 5).inFlight = some flight
      ∧ ((pulseThen a).channel 5).state = .fired ∧ flight.pulseLeft = 0
      ∧ ((pulseThen a).channel 5).waiting = some { flight.req with action := a } := by decide +kernel
/-- Channel 5 of the gallery before a frame edge, with nothing left over from the edge before. -/
def before (x : ChannelState) (fl : Option InFlight) (waiting : Option Request) : State :=
  putChannel 5 { gallery.channel 5 with state := x, inFlight := fl, waiting := waiting, cue := true, fresh := true, sampled := true }
    gallery
/-- The states a channel may come to an edge in, with what is in flight and what waits. -/
def beforeEdges : List State :=
  [ before .cueing (some { flight with firstCheck := 81001 }) none, before .hold (some { flight with holdLimit := 2 }) none,
    before .hold (some { flight with ready := .always, mode := .level }) none, before .fired (some { flight with pulseLeft := 7 }) none,
    before .fault none none, before .idle none none, before .playing none none, before .fault none (some flight.req),
    before .idle none (some flight.req), before .playing none (some { flight.req with action := .stop }) ]
theorem witness_ChannelEvents_edges :
    ∀ s ∈ beforeEdges, s.givesEdge { rdy := 0x0020, order := [] } (.timebaseEdge { rdy := 0x0020, order := [] }) = true
      ∧ s.rst = false ∧ s.quiet ∧ s.triggersOff ∧ s.tkc.out = none ∧ (∀ x ∈ s.store.order, x.autoPost = false)
      ∧ (∀ i : Fin 32, s.sched.slots[i] = none) ∧ (∀ d : Fin 16, d ≠ 5 → (s.channel d).inFlight = none ∧ (s.channel d).waiting = none)
      ∧ (s.channel 5).fresh = true ∧ (s.channel 5).sampled = true
      ∧ (∀ fl ∈ (s.channel 5).inFlight, (s.channel 5).state = .cueing → atOrBefore fl.firstCheck s.clock.frame = false) := by
  unfold State.quiet State.triggersOff; decide +kernel
/-- R109 and R112 to R114 at an edge with RDY asserted: a request cued for the frame keeps its check, two in HOLD fire, a pulse
runs down, and FAULT is left. -/
theorem test_channels_at_an_edge :
    ((beforeEdges.take 5).map fun s =>
      let t := channelWithin 5 (openEdge 0x0020 (advanceClock s))
      ((t.channel 5).state, (t.channel 5).cue, (t.channel 5).inFlight.map fun fl => fl.pulseLeft)) =
      [(.cueing, false, some 0), (.fired, false, some 1), (.playing, false, none), (.fired, false, some 6),
       (.idle, false, none)] := by decide +kernel
/-- R111 to R113: a request that is not ready at its first check, with a hold limit of 0, faults; a pulse ends. -/
theorem test_first_check_faults :
    let t := after (exec (.firstCheck 5) (busy .cueing flight)) gallery
    (t.channel 5).state = .fault ∧ (t.channel 5).faultLatch = true := by decide +kernel
theorem test_first_check_fires_late :
    let t := after (exec (.firstCheck 5) (busy .cueing { flight with ready := .always })) gallery
    (t.channel 5).state = .fired ∧ t.asRun.ring.map (fun r => (r.kind, r.value)) = [(.fireLate, 5)] := by decide +kernel
/-- R161: the record and the FIRE_FAULT of a trigger unit's request carry its number. -/
theorem test_fault_carries_the_unit :
    let t := after (exec (.firstCheck 5) (busy .cueing flight)) gallery
    t.asRun.ring.map (fun r => r.trigger) = [some 4]
      ∧ (Notice.fireFault 5 flight.req 0).payload = [0xFFFFFFFF, 0x02050003, 0x0400FFFF, 0, 0] := by decide +kernel
theorem test_pulse_ends : ((after (exec (.pulseEnd 5) (busy .fired flight)) gallery).channel 5).state = .idle := by
  decide +kernel

/-! Chapters 6 to 8. -/

theorem witness_StationCommands :
    meets 3 (cmd 0x50 2 0 [0]) gallery any ∧ meets 3 (cmd 0x50 1 3001 [0x02000000]) gallery any
      ∧ meets 3 (cmd 0x50 1 0xFFFF [0xFFFFFFFE]) gallery any ∧ meets 3 (cmd 0x50 0 3000 [0x010141FF]) gallery any
      ∧ meets 1 (cmd 0x52 2 0 []) gallery any ∧ meets 1 (cmd 0x52 1 4 []) gallery any ∧ meets 1 (cmd 0x52 0 3 []) gallery any
      ∧ meets 1 (cmd 0x53 2 0 []) gallery any ∧ meets 1 (cmd 0x53 1 0 []) gallery any
      ∧ meets 0 (cmd 0x54 2 0 []) gallery any ∧ meets 0 (cmd 0x54 1 0 []) gallery any
      ∧ meets 0 (cmd 0x55 2 0 []) gallery any ∧ meets 0 (cmd 0x55 1 16 []) gallery any
      ∧ meets 0 (cmd 0x55 1 15 []) gallery any := by decide +kernel
/-- Two marks of station B, at 150 and at 300. -/
def marked : State :=
  let m (i p : Nat) : Mark := { entry := 20, cueIndex := i, story := 0, position := p, channel := 2, action := .fire,
                                argument := 11, state := .armed }
  putStation .b { gallery.station .b with position := 140, step := 10, enables := 1, marks := [m 1 150, m 4 300] } gallery
theorem witness_StationCommands_mark :
    meets 0 (cmd 0x55 1 1 []) marked (fun s => ((s.station .b).marks[1]?).isSome = true) := by decide +kernel
theorem witness_SetPosition :
    meets 3 (cmd 0x51 2 0 [0]) gallery any ∧ meets 3 (cmd 0x51 1 0 [1048576]) marked any := by decide +kernel
theorem witness_EncoderEdge :
    gallery.rst = false ∧ (gallery.station .a).enables.getLsbD 0 = false ∧ marked.rst = false
      ∧ (marked.station .b).enables.getLsbD 0 = true ∧ marked.triggersOff ∧ marked.tkc.engine = .normal
      ∧ (marked.station .b).marks.length ≤ 16 := by
  unfold State.triggersOff; decide +kernel
/-- The edge moves the position from 140 to 150, past 145 and not past 151. -/
theorem witness_EncoderEdge_units :
    ∀ p ∈ [145, 151], (watching (.markPassed .b p) .notify marked).lone 4
      ∧ (watching (.markPassed .b p) .notify marked).triggers.held = []
      ∧ ((watching (.markPassed .b p) .notify marked).triggers.units[(4 : Fin 8)]).condition = .markPassed .b p := by
  unfold State.lone State.sole; decide +kernel
/-- R42: the as-run records of a mark, and of the request it delivers, report the cue index it was loaded with. -/
theorem test_records_report_the_cue_index :
    let s := after (exec (.encoderEdge .b .pa true) marked) marked
    let t := after (exec (.stopChannel 1 0x00000243) s) s
    t.asRun.ring.map (fun r => (r.kind, r.cueIndex)) = [(.markFired, some 1), (.cancelled, some 1)] := by decide +kernel
theorem test_mark_passed :
    ([145, 150, 151].map fun p =>
      let s := watching (.markPassed .b p) .notify marked
      ((after (exec (.encoderEdge .b .pa true) s) s).triggers.units[(4 : Fin 8)]).latch) = [true, true, false] := by
  decide +kernel
theorem witness_ReadyPress : gallery.rst = false := rfl
theorem test_ready_press : ((after (exec (.readyPress .b) gallery) gallery).station .b).ready = true := by decide +kernel

/-- Unit 4 waits for the falling edge of input 2. -/
def unit4 (a : Action) (dropped : Bool) : State :=
  let s := watching (.gpi 2 false) a gallery
  putUnit 4 { s.triggers.units[(4 : Fin 8)] with dropped := dropped } s
theorem witness_TriggerCommands :
    meets 1 (cmd 0x60 8 0 [0, 0x05000100, 0]) gallery any
      -- two faults at once: an entry that is not there, and an action that is none
      ∧ meets 1 (cmd 0x60 7 0 [99, 0x06020000, 0]) gallery (fun s => s.names 99 = false)
      ∧ meets 1 (cmd 0x60 7 0 [0, 0x06000100, 0]) gallery any ∧ meets 1 (cmd 0x60 7 0 [0, 0x00000200, 0]) gallery any
      ∧ meets 1 (cmd 0x60 7 0 [0, 0x00070000, 0]) gallery any
      ∧ meets 1 (cmd 0x60 7 0 [0x18000000, 0x00010000, 0]) gallery any
      -- TIME 23:59:59:24 under a full mask, with NOTICE, and GPI 7 falling, with a FIRE
      ∧ meets 1 (cmd 0x60 7 0 [0x173B3B18, 0x05010100, 0]) gallery (fun s =>
          labelOfWord 0x173B3B18 = { hh := 23, mm := 59, ss := 59, ff := 24 } ∧ s.clock.mode.rate = 25
            ∧ promote s.clock.mode { hh := 23, mm := 59, ss := 59, ff := 24 } = { hh := 23, mm := 59, ss := 59, ff := 24 })
      ∧ meets 1 (cmd 0x60 7 0 [7, 0x01050001, 0x004D0009]) gallery any
      ∧ meets 1 (cmd 0x61 8 0 []) gallery any ∧ meets 1 (cmd 0x61 4 0 []) (unit4 .notify true)
          (fun s => (s.triggers.units[(4 : Fin 8)]).dropped = true)
      ∧ meets 1 (cmd 0x61 7 0 []) gallery (fun s => (s.triggers.units[(7 : Fin 8)]).dropped = false)
      ∧ meets 1 (cmd 0x62 8 0 []) gallery any ∧ meets 1 (cmd 0x62 7 0 []) gallery any
      ∧ meets 1 (cmd 0x63 2 1 []) gallery any ∧ meets 1 (cmd 0x63 1 0 []) gallery any ∧ meets 1 (cmd 0x63 1 5 []) gallery any
      ∧ meets 1 (cmd 0x63 1 4 []) gallery any
      ∧ meets 0 (cmd 0x64 8 0 []) gallery any ∧ meets 0 (cmd 0x64 7 0 []) gallery any := by decide +kernel
theorem witness_GpiEdge :
    gallery.rst = false ∧ gallery.triggers.held = [] ∧ groupsSound gallery ∧ gallery.triggersOff
      ∧ ∀ a ∈ [Action.notify, .lamp .a .wrap, .fire 9 .fire 77, .take, .arm 22, .arm 99],
        let s := unit4 a false
        s.rst = false ∧ s.triggers.held = [] ∧ groupsSound s ∧ s.sole 4
          ∧ (s.triggers.units[(4 : Fin 8)]).condition = .gpi 2 false ∧ (s.triggers.units[(4 : Fin 8)]).action = a
          ∧ stageIn (s.triggers.group 4).chain 4 = none ∧ s.tkc.engine = .normal ∧ s.tkc.armed.isSome = true := by
  unfold State.triggersOff groupsSound TriggerGroup.sound State.sole; decide +kernel
theorem witness_GpiEdge_entries :
    (gallery.entry? 22).any (fun e => e.state == .ready && !e.float) = true ∧ (gallery.entry? 99).isNone = true
      ∧ (watching (.gpi 2 false) .take unarmed).tkc.armed = none ∧ (watching (.gpi 2 false) .take safe).tkc.engine = .safe := by
  decide +kernel
/-- Unit 4 heads the chain of its group, of four, at stage 0 and at stage 1, and unit 7 ends it. -/
theorem witness_GpiEdge_sequence :
    let s (stage : Nat) : State :=
      let t := unit4 .notify false
      { t with triggers := { t.triggers with groups := t.triggers.groups.set 1 { chain := 4, stage := stage } } }
    let ending : Triggers := { (s 3).triggers with
      units := Vector.set gallery.triggers.units 7 ((s 3).triggers.units[(4 : Fin 8)]) }
    let last : State := { s 3 with triggers := ending }
    stageIn ((s 0).triggers.group 4).chain 4 = some 0 ∧ ((s 0).triggers.group 4).stage = 0 ∧ ((s 1).triggers.group 4).stage = 1
      ∧ stageIn (last.triggers.group 7).chain 7 = some 3 ∧ (last.triggers.group 7).stage = 3 ∧ groupsSound last ∧ last.sole 7
      ∧ groupsSound (s 0) ∧ (s 0).sole 4 := by
  unfold groupsSound TriggerGroup.sound State.sole; decide +kernel
/-- R158: the TAKE unit's own latch is cleared by the take it makes; without an armed entry it stays. -/
theorem test_take_unit :
    ((after (exec (.gpiEdge 2 false) (unit4 .take false)) gallery).triggers.units[(4 : Fin 8)]).latch = false
      ∧ ((after (exec (.gpiEdge 2 false) (watching (.gpi 2 false) .take unarmed)) gallery).triggers.units[(4 : Fin 8)]).latch
          = true := by decide +kernel
/-- Unit 0 takes at a falling edge of input 2, unit 1 when 21 is on air, and unit 2 notes a remaining time of 750, 21's. -/
def chasing (s : State) : State :=
  let x (c : Condition) (a : Action) (m : TriggerMode) : TriggerUnit :=
    { condition := c, action := a, mode := m, enable := true, latch := false, dropped := false, timeMemory := false, spent := false }
  putUnit 0 (x (.gpi 2 false) .take .repeating) (putUnit 1 (x (.entryOnAir 21) .take .repeating)
    (putUnit 2 (x (.remaining 750) .notify .repeating) s))
/-- R154, R158: 21's starting value is tested though unit 1 has taken 22 before that test. -/
theorem test_first_starting_value :
    let t := after (exec (.gpiEdge 2 false) (chasing gallery)) gallery
    t.pgmId = 22 ∧ t.triggers.units.toList.map (·.latch) = [false, false, true, false, false, false, false, false] := by
  decide +kernel
/-- R158: a SINGLE unit that a director's take meets acts once, though the take of another unit met starts at its value too. -/
theorem test_single_unit_acts_once :
    let s := { gallery with store := { gallery.store with order := gallery.store.order.map fun e => { e with planned := 750 } } }
    let u := (chasing s).triggers.units[(2 : Fin 8)]
    let t := after (exec (.take 1 0x00000022) (putUnit 2 { u with action := .take, mode := .single } (chasing s))) s
    t.pgmId = 23 ∧ t.asRun.ring.filterMap (fun r => if r.kind = .take ∨ r.kind = .takeEmpty then some (r.kind, r.entry) else none)
      = [(.take, some 21), (.take, some 22), (.take, some 23)] := by decide +kernel
theorem test_unit_notifies :
    (after (exec (.gpiEdge 2 false) (unit4 .notify false)) gallery).triggers.units.toList.map (·.latch) =
      [false, false, false, false, true, false, false, false] := by decide +kernel
theorem witness_TallyCommands :
    meets 1 (cmd 0x70 24 0 [0, 0]) gallery any ∧ meets 1 (cmd 0x70 23 0 [13, 0]) gallery any
      -- A as it stands, B LAMP of station B and WRAP from a parameter above its range, C TRIG 7 from one above 7
      ∧ meets 1 (cmd 0x70 23 30001 [0xFF06FFFF, 0x00FCFF0C]) gallery (fun _ =>
          Source.code (.lamp .b .wrap) = 6 ∧ stationCode .b = min (0xFF / 16) 1 ∧ LampState.code .wrap = min (0xFF % 16) 3
            ∧ Source.code (.trig 7) = 12 ∧ 7 = min 0xFF 7)
      ∧ meets 0 (cmd 0x71 24 0 []) gallery any ∧ meets 0 (cmd 0x71 23 0 []) gallery any := by decide +kernel

/-! Chapters 10 and 11. -/

/-- A record of a sequence number. -/
def record (q : Word) : AsRunRecord :=
  { sequence := q, frame := 0, tod := 0, mode := .f25, kind := .take, entry := none, story := none, channel := none,
    cueIndex := none, trigger := none, value := 0 }

/-- The ring holds 744 to 746, and the next number is 747. -/
def logged : State := { gallery with asRun := { ring := [record 744, record 745, record 746], next := 747 } }
theorem witness_ReadAsRun :
    State.reset.asRun.sound ∧ logged.asRun.sound ∧ meets 2 (cmd 0x80 0 0 [700]) State.reset (fun s => s.asRun.ring.length = 0)
      ∧ (∀ q : Fin 3, meets 2 (cmd 0x80 0 0 [744 + w32 q.val]) logged (fun s => s.asRun.ring.length = 3))
      ∧ meets 2 (cmd 0x80 0 0 [747]) logged any ∧ meets 2 (cmd 0x80 0 0 [743]) logged any := by
  unfold AsRun.sound; decide +kernel
/-- "A read across an overwrite": 700 is answered with GAP, the record 744, and 44 lost. -/
theorem test_gap :
    let r := replyTo .readAsRun 2 (cmd 0x80 0 0 [700]) logged
    (r.getD 1 0, r.getD 6 0, r.getD 7 0, r.getD 8 0) = (744, 744, 747, 44) := by decide +kernel
theorem test_record_present : (replyTo .readAsRun 2 (cmd 0x80 0 0 [745]) logged).getD 1 0 = 745 := by decide +kernel

/-- A notice for a queue. -/
def note (i v : Nat) : Queued := { notice := .noNext i 0 0, level := v }

/-- Link 1 with a queue and saved masks. -/
def queued (q : List Queued) (stack : List Nat) : State :=
  putLink 1 { gallery.link 1 with queue := q, stack := stack, heldNotice := q.head?.map .notice } gallery
theorem witness_NoticeAdmission :
    let l : Link := { (queued (List.replicate 16 (note 1 3)) []).link 1 with levels := Vector.replicate 21 4 }
    let k : Notice := .noNext 2 0 0
    l.queue = [] ++ note 1 3 :: List.replicate 15 (note 1 3) ∧ l.levels.toList.getD k.kind.code 0 = 4
      ∧ k.kind.coalescing = false ∧ 16 ≤ l.queue.length ∧ (∀ p ∈ List.replicate 15 (note 1 3), 3 ≤ p.level)
      ∧ (gallery.link 1).levels.toList.getD k.kind.code 0 = 0
      ∧ (Notice.clockTick 0 0 0 false).kind.coalescing = true := by decide +kernel
theorem witness_NoticeAdmission_coalesces :
    let tick : Queued := { notice := .clockTick 0 0 0 false, level := 1 }
    let l : Link := { gallery.link 1 with queue := [tick], levels := Vector.replicate 21 7 }
    let k : Notice := .clockTick 25 1 25 false
    l.levels.toList.getD k.kind.code 0 ≠ 0 ∧ k.kind.coalescing = true ∧ ∃ p ∈ l.queue, p.notice.kind = k.kind := by
  decide +kernel
theorem witness_FetchNotice :
    meets 1 (cmd 0x90 0 0 []) (queued [] []) (fun s => ((s.begun 1).link 1).queue = [])
      ∧ meets 1 (cmd 0x90 0 0 []) (queued [note 1 1] [0, 1, 2, 3]) (fun s => ((s.begun 1).link 1).queue ≠ []
          ∧ 4 ≤ ((s.begun 1).link 1).stack.length)
      ∧ meets 1 (cmd 0x90 0 0 []) (queued [note 1 1, note 2 4, note 3 6] [0, 1, 2]) (fun s =>
          ((s.begun 1).link 1).stack.length < 4 ∧ ((s.begun 1).link 1).queue = [note 1 1, note 2 4] ++ note 3 6 :: [])
      ∧ meets 1 (cmd 0x91 0 0 []) (queued [note 1 1] []) (fun s => ((s.begun 1).link 1).heldNotice = some (.notice (note 1 1)))
      ∧ meets 1 (cmd 0x91 0 0 []) (queued [] []) (fun s => ((s.begun 1).link 1).heldNotice = none) := by decide +kernel
theorem witness_LinkSettings :
    meets 0 (cmd 0x94 21 0 []) gallery any ∧ meets 0 (cmd 0x94 20 0 []) gallery any ∧ meets 0 (cmd 0x94 19 8 []) gallery any
      ∧ meets 0 (cmd 0x94 1 7 []) gallery any ∧ meets 0 (cmd 0x93 0 8 []) gallery any
      ∧ meets 1 (cmd 0x92 0 0 []) (queued [] []) (fun s => ((s.begun 1).link 1).stack = [])
      ∧ meets 1 (cmd 0x92 0 0 []) (queued [] [0, 6]) (fun s => ((s.begun 1).link 1).stack = [0] ++ [6])
      ∧ meets 2 (cmd 0x95 0 0 []) gallery any ∧ meets 3 (cmd 0x96 0 0xFF []) gallery any := by decide +kernel
theorem witness_LinkRows :
    gallery.rst = false ∧ (gallery.link 0).disregard = false ∧ (gallery.link 0).receiver = .command
      ∧ frameCode 0x00000100 = 0 ∧ frameCode 6 ≠ 0 ∧ commandRow? (frameCode 6) = none
      ∧ dataFramesOf (frameCode 0x17) = 2 + 1 ∧ (gallery.link 0).held = false := by decide +kernel
/-- TAKE on the link of the newsroom system is framed, and R189 does not open it. -/
theorem witness_LinkRows_role :
    gallery.framed 0 (cmd 0x22 0 25 []) 0x00190022 = true ∧ (gallery.link 0).role = .newsroom
      ∧ rowOfCode 0x22 0 0x00190022 = some (.take 0 0x00190022) := by decide +kernel
/-- A frame alongside a resynchronisation frame. -/
theorem witness_LinkRows_disregard :
    let s := putLink 0 { gallery.link 0 with disregard := true } gallery
    s.rst = false ∧ (s.link 0).disregard = true ∧ rowOfCode 0x01 0 1 = some (.readClock 0 1) := by decide +kernel
theorem witness_LinkRows_data :
    let held := putLink 0 { gallery.link 0 with held := true, receiver := .data (cmd 0x17 1 0 []) 3 } gallery
    ((held.link 0).held = true ∧ (held.link 0).receiver = .data (cmd 0x17 1 0 []) (0 + 3) ∧ held.rst = false) ∧
    let s := putLink 0 { gallery.link 0 with receiver := .data (cmd 0x17 1 0 []) 3 } gallery
    (s.link 0).held = false ∧ (s.link 0).receiver = .data (cmd 0x17 1 0 []) (1 + 2)
      ∧ (s.link 0).receiver = .data (cmd 0x17 1 0 []) (0 + 3) ∧ s.rst = false ∧ (s.link 0).disregard = false := by
  decide +kernel
theorem witness_StepKeepsTheBlocksSound :
    channelsSound gallery ∧ groupsSound gallery ∧ gallery.asRun.sound ∧ ∃ t, step gallery = .next t := by
  refine ⟨?_, ?_, ?_, _, rfl⟩
  · unfold channelsSound Channel.sound; decide +kernel
  · unfold groupsSound TriggerGroup.sound; decide +kernel
  · unfold AsRun.sound; decide +kernel
theorem witness_StepKeepsTheBlocksSound_stations : stationsSound gallery := by
  refine ⟨fun st => ?_, ?_⟩
  · unfold Station.sound; cases st <;> decide +kernel
  · decide +kernel
theorem witness_StepKeepsTheLinksSound : linksSound gallery ∧ ∃ t, step gallery = .next t := by
  refine ⟨?_, _, rfl⟩
  unfold linksSound Link.sound Queued.sound; decide +kernel

end Sys2Proof.Tests
end

section
/-! SUPPORT. The timecode conversions, said once: whole-frame labels and their counts (R15), drop-frame labels and promotion
(R14, R16); then the statements WholeFrameLabels and DropFrameLabels. -/

namespace Sys2Proof

open Machine

/-! ### Whole-frame labels (R15) -/

theorem labelOf_eq_wholeLabel {m : Mode} (hm : m ≠ .df2997) (n : Nat) : labelOf m n = wholeLabel m.rate n := by
  cases m with
  | f25 => rfl
  | f30 => rfl
  | df2997 => exact absurd rfl hm

theorem countOf_eq_wholeCount {m : Mode} (hm : m ≠ .df2997) (l : Label) : countOf m l = wholeCount m.rate l := by
  cases m with
  | f25 => rfl
  | f30 => rfl
  | df2997 => exact absurd rfl hm

/-- A day is 24 hours of seconds, and each second holds the rate's frames. -/
theorem day_eq_seconds_mul_rate {m : Mode} (hm : m ≠ .df2997) : m.day = 86400 * m.rate := by
  cases m with
  | f25 => rfl
  | f30 => rfl
  | df2997 => exact absurd rfl hm

/-- The written label splits off the frames, and the seconds then split into hours, minutes and seconds without loss. -/
theorem wholeCount_wholeLabel (f n : Nat) : wholeCount f (wholeLabel f n) = n := by
  have hseconds (s : Nat) : (60 * (s / 3600) + s / 60 % 60) * 60 + s % 60 = s := by omega
  simp only [wholeCount, wholeLabel, hseconds, Nat.div_add_mod']

/-- Dividing a label's count by the rate leaves its frames as the remainder and its seconds as the quotient. No bound on the
hours is needed. -/
theorem wholeLabel_wholeCount {f : Nat} {l : Label} (hmm : l.mm < 60) (hss : l.ss < 60) (hff : l.ff < f) :
    wholeLabel f (wholeCount f l) = l := by
  have hdiv : wholeCount f l / f = (60 * l.hh + l.mm) * 60 + l.ss := by
    rw [wholeCount, Nat.mul_comm, Nat.mul_add_div (Nat.zero_lt_of_lt hff), Nat.div_eq_of_lt hff, Nat.add_zero]
  have hmod : wholeCount f l % f = l.ff := by
    rw [wholeCount, Nat.mul_add_mod_self_right, Nat.mod_eq_of_lt hff]
  have hours : ((60 * l.hh + l.mm) * 60 + l.ss) / 3600 = l.hh := by omega
  have minutes : ((60 * l.hh + l.mm) * 60 + l.ss) / 60 % 60 = l.mm := by omega
  have seconds : ((60 * l.hh + l.mm) * 60 + l.ss) % 60 = l.ss := by omega
  simp only [wholeLabel, hdiv, hmod, hours, minutes, seconds]

theorem wholeCount_lt {f : Nat} {l : Label} (hhh : l.hh < 24) (hmm : l.mm < 60) (hss : l.ss < 60) (hff : l.ff < f) :
    wholeCount f l < 86400 * f := by
  have hseconds : (60 * l.hh + l.mm) * 60 + l.ss + 1 ≤ 86400 := by omega
  calc wholeCount f l < ((60 * l.hh + l.mm) * 60 + l.ss) * f + f := Nat.add_lt_add_left hff _
    _ = ((60 * l.hh + l.mm) * 60 + l.ss + 1) * f := (Nat.succ_mul _ f).symm
    _ ≤ 86400 * f := Nat.mul_le_mul_right f hseconds

/-- Settles O11: in F25 and F30 the conversions are those of R15 at the mode's rate, which are inverse to each other. -/
theorem wholeFrameLabels : Obligations.WholeFrameLabels := by
  intro m hm
  refine ⟨fun n _ => ?written, fun l hhh hmm hss hff => ?read, rfl, rfl⟩
  case written =>
    rw [countOf_eq_wholeCount hm, labelOf_eq_wholeLabel hm]
    exact ⟨rfl, wholeCount_wholeLabel m.rate n⟩
  case read =>
    rw [countOf_eq_wholeCount hm, labelOf_eq_wholeLabel hm, day_eq_seconds_mul_rate hm]
    exact ⟨rfl, wholeCount_lt hhh hmm hss hff, wholeLabel_wholeCount hmm hss hff⟩

/-! ### Drop-frame labels (R14, R16) -/

/-- R14's missing labels, as a proposition. -/
theorem labelMissing_df2997_iff (l : Label) :
    labelMissing .df2997 l = true ↔ l.ss = 0 ∧ l.ff < 2 ∧ (60 * l.hh + l.mm) % 10 ≠ 0 := by
  simp [labelMissing, and_assoc]

/-- Promotion writes ff = 02, which no missing label has. -/
theorem labelMissing_promote (m : Mode) (l : Label) : labelMissing m (promote m l) = false := by
  unfold promote
  split
  · simp [labelMissing]
  · next h => exact Bool.eq_false_iff.mpr h

/-- R16 by its step 2: the first minute of a ten-minute block keeps all its labels. -/
theorem dropLabel_of_first_minute {n : Nat} (h : n % 17982 < 1800) :
    dropLabel n = { hh := 10 * (n / 17982) / 60, mm := 10 * (n / 17982) % 60,
                    ss := n % 17982 / 30, ff := n % 17982 % 30 } := by
  simp [dropLabel, h]

/-- R16 by its step 3: each of the block's minutes 1 to 9 is labelled from frame 2. -/
theorem dropLabel_of_later_minute {n : Nat} (h : 1800 ≤ n % 17982) :
    let m := 1 + (n % 17982 - 1800) / 1798
    let l := 2 + (n % 17982 - 1800) % 1798
    dropLabel n = { hh := (10 * (n / 17982) + m) / 60, mm := (10 * (n / 17982) + m) % 60, ss := l / 30, ff := l % 30 } := by
  simp [dropLabel, Nat.not_lt.mpr h]

/-- No count is written as a missing label: the first minute of a block has a minute total that is a multiple of ten, and
a later minute is labelled from frame 2. -/
theorem labelMissing_dropLabel (n : Nat) : labelMissing .df2997 (dropLabel n) = false := by
  rw [Bool.eq_false_iff, Ne, labelMissing_df2997_iff]
  rcases Nat.lt_or_ge (n % 17982) 1800 with h | h
  · rw [dropLabel_of_first_minute h, Nat.div_add_mod, Nat.mul_mod_right]
    simp
  · rw [dropLabel_of_later_minute h]
    dsimp only
    omega

/-- Settles O12: R16's steps by the two kinds of minute; no missing label is written, and none is left by promotion. -/
theorem dropFrameLabels : Obligations.DropFrameLabels := by
  refine ⟨fun n _ => ⟨fun h => ?first, fun h => ?later, ?noneMissing⟩, labelMissing_promote .df2997⟩
  case first => exact dropLabel_of_first_minute h
  case later => exact dropLabel_of_later_minute h
  case noneMissing => exact mt (labelMissing_df2997_iff _).mpr (Bool.eq_false_iff.mp (labelMissing_dropLabel n))

end Sys2Proof
end

section
/-! SUPPORT. READ AS-RUN (R181, R196): what a read finds on a sound ring, said once for each of R181's cases, and the reply that
each finding makes; then the statement ReadAsRun. -/

namespace Sys2Proof

open Machine

/-! ### The state a read acts on -/

/-- READ AS-RUN is in the set of commands that R189 opens to every role. -/
theorem opens_readAsRun (r : Role) : opens 0x80 r = true := by
  cases r <;> decide

@[simp] theorem begun_asRun (s : State) (n : Fin 4) : (s.begun n).asRun = s.asRun := by
  unfold State.begun
  cases (s.link n).receiver with
  | command => exact putLink_asRun ..
  | data => exact putLink_asRun ..

theorem exec_readAsRun (n : Fin 4) (f : Word) (s : State) : exec (.readAsRun n f) s = execReadAsRun n f s := rfl

/-- The frame that completes a READ AS-RUN is answered from the ring as it stands, and nothing else of the state is touched. -/
theorem exec_readAsRun_completes {n : Fin 4} {k : Command} {f q : Word} {s : State} (h : s.completes n k f = true)
    (hcode : k.code = 0x80) (hdata : k.data = [q]) :
    exec (.readAsRun n f) s = .next (s.answered n 0x80 (readAsRunReply s.asRun q) (s.begun n)) := by
  rw [exec_readAsRun, execReadAsRun, ← hcode, onCommand_completes n k f s _ h]
  simp only [begun_asRun, Command.word, hdata, List.getD_cons_zero]

/-! ### Records of a ring (R180) -/

theorem w32_toNat (x : Word) : w32 x.toNat = x := by
  simp [w32]

theorem recordAt_of_lt {a : AsRun} {i : Nat} (hi : i < a.ring.length) (g : AsRunRecord → AsRunRead) :
    a.recordAt i g = g a.ring[i] := by
  simp [AsRun.recordAt, hi]

/-- The ring's records carry consecutive sequence numbers from the oldest present. -/
theorem sequence_getElem_of_sound {a : AsRun} (h : a.sound) {i : Nat} (hi : i < a.ring.length) :
    a.ring[i].sequence = a.oldest + w32 i := by
  have hget := congrArg (·[i]?) h.2
  simpa [hi] using hget

/-- The record at the offset of q from the oldest is the one numbered q, whether or not the numbers wrap in between. -/
theorem sequence_at_offset_of_sound {a : AsRun} (h : a.sound) {q : Word} (hq : (q - a.oldest).toNat < a.ring.length) :
    a.ring[(q - a.oldest).toNat].sequence = q := by
  rw [sequence_getElem_of_sound h hq, w32_toNat, BitVec.add_comm, BitVec.sub_add_cancel]

/-! ### What a read finds (R181) -/

theorem read_of_empty {a : AsRun} (h : a.ring.length = 0) (q : Word) : a.read q = .atEnd := by
  simp [AsRun.read, h]

/-- A number from the oldest up to the next less one finds its own record. -/
theorem read_of_present {a : AsRun} (h : a.sound) {q : Word} (hq : (q - a.oldest).toNat < a.ring.length) :
    ∃ r ∈ a.ring, r.sequence = q ∧ a.read q = .found r := by
  refine ⟨a.ring[(q - a.oldest).toNat], List.getElem_mem hq, sequence_at_offset_of_sound h hq, ?_⟩
  simp only [AsRun.read, Nat.ne_zero_of_lt hq, hq, if_true, if_false, recordAt_of_lt]

/-- A number at the next one, or less than half the number space after it, finds END. -/
theorem read_of_not_yet_appended {a : AsRun} {q : Word} (hq : a.ring.length ≤ (q - a.oldest).toNat)
    (hnext : (q - a.next).toNat < 2 ^ 31) : a.read q = .atEnd := by
  simp only [AsRun.read, Nat.not_lt.mpr hq, hnext, if_true, if_false, ite_self]

/-- Any other number is older than the ring, which finds GAP with the oldest record. -/
theorem read_of_overwritten {a : AsRun} (h : a.sound) {q : Word} (hne : a.ring.length ≠ 0)
    (hq : a.ring.length ≤ (q - a.oldest).toNat) (hnext : 2 ^ 31 ≤ (q - a.next).toNat) :
    ∃ r, a.ring.head? = some r ∧ r.sequence = a.oldest ∧ a.read q = .gap r (a.oldest - q) := by
  have hpos : 0 < a.ring.length := Nat.pos_of_ne_zero hne
  refine ⟨a.ring[0], by rw [List.head?_eq_getElem?, List.getElem?_eq_getElem hpos], ?oldest, ?found⟩
  case oldest => simpa [w32] using sequence_getElem_of_sound h hpos
  case found =>
    simp only [AsRun.read, hne, Nat.not_lt.mpr hq, Nat.not_lt.mpr hnext, if_false, recordAt_of_lt hpos]

/-! ### The statement -/

/-- Settles O53, by R181's cases: each names what the read finds, and R196's layout of that finding is the reply. -/
theorem readAsRun : Obligations.ReadAsRun := by
  refine ⟨opens_readAsRun, fun n k f q s hk hcode hdata hs => ?_⟩
  have hexec := exec_readAsRun_completes hk hcode hdata
  refine ⟨fun hempty => ?empty, fun _ hq => ?present, fun _ hq hnext => ?notYet, fun hne hq hnext => ?overwritten⟩
  case empty =>
    rw [readAsRunReply, read_of_empty hempty] at hexec
    exact hexec
  case present =>
    obtain ⟨r, hmem, hseq, hread⟩ := read_of_present hs hq
    rw [readAsRunReply, hread] at hexec
    exact ⟨r, hmem, hseq, hexec⟩
  case notYet =>
    rw [readAsRunReply, read_of_not_yet_appended hq hnext] at hexec
    exact hexec
  case overwritten =>
    obtain ⟨r, hhead, hseq, hread⟩ := read_of_overwritten hs hne hq hnext
    rw [readAsRunReply, hread] at hexec
    exact ⟨r, hhead, hseq, hexec⟩

end Sys2Proof
end
